-- ==== Sys2Proof/Word.lean ====
section
/-! DEFINITION. The plain data of the part: bytes, converter codes, fraction codes, three-phase sets and triples. -/

namespace Sys2Proof

/-- A byte of a frame, a link word or the setup image (11_formats). -/
abbrev Byte := BitVec 8

/-- A signed 16-bit converter code or output value (R3, R145). -/
abbrev Code := BitVec 16

/-- A fraction code: signed 24 bits, `code / 2^23` of full scale (R41). -/
abbrev Frac := BitVec 24

/-- A close number, interval number, arrival stamp or target interval: 16 bits, wrapping (R10, R11). -/
abbrev Num := BitVec 16

/-- One value for each of the three phases. -/
structure Phases (α : Type) where
  a : α
  b : α
  c : α
  deriving DecidableEq, Repr

/-- One value for each of the nine plant channels, in the order converted: load a, b, c; bus
voltage a, b, c; own output a, b, c (R3). -/
structure Channels (α : Type) where
  load : Phases α
  volt : Phases α
  own : Phases α
  deriving DecidableEq, Repr

/-- A triple: quadrature positive-sequence part and the two parts of a negative-sequence
component (00_scope, Terms). -/
structure Triple where
  q : Frac
  re : Frac
  im : Frac
  deriving DecidableEq, Repr

/-- The triple (0, 0, 0). -/
def Triple.zero : Triple := ⟨0, 0, 0⟩

/-- The same function on each phase. -/
def Phases.map {α β : Type} (f : α → β) (x : Phases α) : Phases β := ⟨f x.a, f x.b, f x.c⟩

/-- The same function on each channel. -/
def Channels.map {α β : Type} (f : α → β) (x : Channels α) : Channels β :=
  ⟨x.load.map f, x.volt.map f, x.own.map f⟩

/-- Whether any of three flags is set. -/
def Phases.any (x : Phases Bool) : Bool := x.a || x.b || x.c

/-- Whether any of nine flags is set. -/
def Channels.any (x : Channels Bool) : Bool := x.load.any || x.volt.any || x.own.any

end Sys2Proof
end

