-- ==== Sys2Proof/Syntax.lean ====
section
/-! DEFINITION. The commands of the block: one constructor per row of spec/opcode_table.json. A
row's operands are what its step reads from outside the part (notes/assumptions/8.md). -/

namespace Sys2Proof

/-- The steps of the part, each whole and indivisible (95_what_each_step_holds). -/
inductive Instr where
  /-- POWER_ON (R160): supply-good first holds or returns. -/
  | powerOn
  /-- LOSS_OF_SUPPLY_GOOD (R160). -/
  | lossOfSupplyGood
  /-- END_OF_POWER_ON_WAIT (R162): `high` is the level of RESET_N at that moment. -/
  | endOfPowerOnWait (high : Bool)
  /-- RESET_LINE_ASSERTION (R161): RESET_N has been low for 10 µs. -/
  | resetLineAssertion
  /-- RESET_LINE_RELEASE (R162): RESET_N rises after an assertion. -/
  | resetLineRelease
  /-- SETUP_READ_COMPLETION (R163): `image` is the 32 bytes read from the setup memory. -/
  | setupReadCompletion (image : Vector Byte 32)
  /-- SAMPLE_TIMER_EXPIRY (R1): `codes` are the converter codes of the nine inputs captured at
  the expiry (R3). -/
  | sampleTimerExpiry (codes : Channels Code)
  /-- MODULE_LINK_SILENCE (R153): the silence declared at an expiry of the sample timer, taken before the
  expiry's own step (R140). -/
  | moduleLinkSilence
  /-- SCAN_COMPLETION (R5): `check` is the code of the tenth conversion (R7), `quench` the level
  of the QUENCH line, which a window close samples (R166). -/
  | scanCompletion (check : Code) (quench : Bool)
  /-- VIEW_COPY_COMPLETION (R101). -/
  | viewCopyCompletion
  /-- RUN_COMPLETION (R39). -/
  | runCompletion
  /-- BACKOFF_EXPIRY (R115). -/
  | backoffExpiry
  /-- CLEAR_CHECK_PASS (R116). -/
  | clearCheckPass
  /-- LINE_BUSY (R117): carrier sense goes busy. -/
  | lineBusy
  /-- LINE_IDLE (R112): carrier sense reports the line idle. -/
  | lineIdle
  /-- COLLISION (R120): an echoed byte differs from the byte sent. -/
  | collision
  /-- TRANSMISSION_COMPLETION (R122): the echo of the last CRC byte compares equal. -/
  | transmissionCompletion
  /-- START_DELIMITER (R124, R178): the byte 0x9E has been received after `preamble` bits of the alternating
  preamble pattern, of which a frame received whole has 32. -/
  | startDelimiter (preamble : Nat := 32)
  /-- LENGTH_BYTE_CHECK (R125): `len` is the length byte received. -/
  | lengthByteCheck (len : Byte)
  /-- FRAME_RECEPTION_COMPLETION (R125): `body` and `crc` are the bytes received. -/
  | frameReceptionCompletion (body : Vector Byte 33) (crc : BitVec 16)
  /-- MERGE_COMPLETION (R96). -/
  | mergeCompletion
  /-- STATUS_ARRIVAL (R152): a word of `bits` bits has ended; `word` holds them, first bit most
  significant, and is read only where `bits` is 24 (R179). -/
  | statusArrival (bits : Nat) (word : BitVec 24)
  /-- RESET_N_RETURNS_HIGH (R162): RESET_N rises at the end of a low spell shorter than 10 µs. -/
  | resetNReturnsHigh
  deriving DecidableEq, Repr

end Sys2Proof
end

