-- ==== Sys2Proof/Machine/Arithmetic.lean ====
section
/-! DEFINITION. The number kinds of the engine and their operations (03, section 3.2): every result
is formed exactly over `Int` or `Nat` and narrowed once at the end. -/

namespace Sys2Proof.Machine

open Sys2Proof

/-- `x` brought into `lo..hi`. -/
def clamp (lo hi x : Int) : Int := max lo (min x hi)

/-- The lowest fraction code (R41). -/
def fracMin : Int := -8388608

/-- The highest fraction code (R41). -/
def fracMax : Int := 8388607

/-- An exact code saturated to a fraction (R43, R44). -/
def satFrac (x : Int) : Frac := BitVec.ofInt 24 (clamp fracMin fracMax x)

/-- A converter code as a fraction code: the code times 2^8 (R41). -/
def codeFraction (c : Code) : Int := c.toInt * 256

/-- `x / 2^k` rounded to the nearest integer, halves to the even one (R43, R145). -/
def roundHalfEven (x : Int) (k : Nat) : Int :=
  let q := x / (2 ^ k : Nat)
  let r := x % (2 ^ k : Nat)
  if 2 * r < (2 ^ k : Nat) then q
  else if (2 ^ k : Nat) < 2 * r then q + 1
  else if q % 2 = 0 then q
  else q + 1

/-- A result that was narrowed once, and whether the narrowing saturated (R43, R44). -/
structure Reduced where
  val : Frac
  sat : Bool
  deriving DecidableEq, Repr

/-- Reduce with the rounding point `k` bits up: an accumulator in units of 2^-46 divided by
2^(k - 23) and rounded at 2^-23 (R42, R43). -/
def reduceAt (k : Nat) (acc : Int) : Reduced :=
  let y := roundHalfEven acc k
  ⟨satFrac y, decide (y < fracMin) || decide (fracMax < y)⟩

/-- Reduce: an accumulator in units of 2^-46 to a fraction (R43). -/
def reduce (acc : Int) : Reduced := reduceAt 23 acc

/-- Negation of a fraction; only -8,388,608 saturates (R44). -/
def negate (x : Frac) : Reduced := ⟨satFrac (-x.toInt), decide (fracMax < -x.toInt)⟩

/-- Saturating add (R44). -/
def satAdd (x y : Frac) : Frac := satFrac (x.toInt + y.toInt)

/-- Scale by `k / 65,536`, truncated toward zero (R45). -/
def scale (x : Frac) (k : Nat) : Frac := BitVec.ofInt 24 ((x.toInt * k).tdiv 65536)

/-- Scale each part of a triple (R79, R81, R141). -/
def scaleTriple (t : Triple) (k : Nat) : Triple := ⟨scale t.q k, scale t.re k, scale t.im k⟩

/-- Divide-16: floor of `a * 65,536 / b`, held at 65,535 (R46). Called with `0 < b` only. -/
def divide16 (a b : Nat) : Nat := min 65535 (a * 65536 / b)

/-- The M-norm: the larger magnitude plus half the smaller, rounded down (R47, R61). -/
def mnorm (x y : Int) : Nat := max x.natAbs y.natAbs + min x.natAbs y.natAbs / 2

/-- The measure of a triple: |q| + M(re, im) (R81). -/
def measure (t : Triple) : Nat := t.q.toInt.natAbs + mnorm t.re.toInt t.im.toInt

/-- The headroom code of a non-negative fraction code: division by 128, truncated (R48). -/
def headroomCode (x : Nat) : BitVec 16 := BitVec.ofNat 16 (x / 128)

/-- A count raised by one and held at `top` (R8, R63, R117, R128). -/
def bump (top n : Nat) : Nat := min top (n + 1)

/-! The constants of the decomposition and of the synthesis (section 3.2). -/

/-- 1/3. -/
def k3 : Int := 2796203

/-- 1/6. -/
def k6 : Int := 1398101

/-- √3/6. -/
def ks : Int := 2421583

/-- 1/2. -/
def kh : Int := 4194304

/-- √3/2. -/
def kr : Int := 7264748

end Sys2Proof.Machine
end

