-- ==== Sys2Proof/Config.lean ====
section
/-! DEFINITION. What is fixed for the part: the sizes of its buffers and the two grid frequencies.
No value of the spec is left open for a running part to read, so there is no free value here. -/

namespace Sys2Proof

/-- The two frequency codes a setup image may carry, 50 and 60 (R163). -/
inductive Freq where
  | hz50
  | hz60
  deriving DecidableEq, Repr

namespace Config

/-- Scans in an interval, and records in a bank of the sample store (R4, R12). -/
def scansPerInterval : Nat := 32

/-- Close records held by the close history (R57). -/
def historyDepth : Nat := 4

/-- The age past which a peer entry is purged (R100). -/
def purgeAge : Nat := 64

/-- Bits of preamble a receiver needs before a start delimiter (R178). -/
def preambleBits : Nat := 16

/-- Silent scans after which the module is lost (R153). -/
def silenceLimit : Nat := 64

end Config

end Sys2Proof
end

