-- ==== Sys2Proof/Machine/State.lean ====
section
/-! DEFINITION. The state of the part, block by block (00_scope, Block overview), its faults and
refusals, and the state after reset. -/

namespace Sys2Proof.Machine

open Sys2Proof

/-! ## Pins, power and the station controller (10_station_states_setup_and_restart) -/

/-- Supply and level lines. -/
structure Pins where
  /-- Supply-good holds (R160). -/
  supplyGood : Bool
  /-- Level of RESET_N as last reported, `true` for high (R162). -/
  resetN : Bool
  /-- A reset-line assertion has not yet been released (R161, R162). -/
  resetAsserted : Bool
  /-- The setup memory's select line is asserted (R160, R163). -/
  spiSelect : Bool
  /-- Bytes the part sends in the transaction in progress with the setup memory; none while the select line
  is deasserted (R181). -/
  spiSent : List Byte
  deriving DecidableEq, Repr

/-- The station states (chapter 10). -/
inductive StationState where
  | off
  | setup
  | listen
  | active
  | hold
  | fault
  deriving DecidableEq, Repr

/-- The states a share frame announces, and a peer entry holds (R93, R176). -/
inductive Announced where
  | listen
  | active
  | hold
  deriving DecidableEq, Repr

/-- The hold-cause set (R167). -/
structure Causes where
  sync : Bool
  module : Bool
  frontend : Bool
  quench : Bool
  xcheck : Bool
  deriving DecidableEq, Repr

/-- The values taken from the setup image, with the setup-adjusted flag (R164). -/
structure Setup where
  group : BitVec 4
  id : Fin 8
  freq : Freq
  serial : BitVec 32
  /-- Imax, Vmin, Cmax and Tx are fraction codes, all non-negative. -/
  imax : Nat
  vmin : Nat
  cmax : Nat
  tx : Nat
  /-- Aging limit A. -/
  aging : Nat
  /-- Correction gain code. -/
  gain : Nat
  /-- Listen period N_L. -/
  listenPeriod : Nat
  /-- Reentry period N_R. -/
  reentryPeriod : Nat
  adjusted : Bool
  deriving DecidableEq, Repr

/-- The station controller's state (chapter 10, R175). -/
structure Station where
  state : StationState
  /-- The power-on wait runs (R160). -/
  waiting : Bool
  causes : Causes
  /-- QUENCH sample (R166). -/
  quench : Bool
  listenCount : Nat
  reentryCount : Nat
  announced : Bool
  /-- Told headroom H_told (R75, R171). -/
  told : BitVec 16
  setup : Option Setup
  deriving DecidableEq, Repr

/-! ## Acquisition and the sample store (01) -/

/-- A scan in progress: its cycle index and the nine inputs held since the expiry (R3, R4). -/
structure Scan where
  index : BitVec 6
  codes : Channels Code
  deriving DecidableEq, Repr

/-- The acquisition unit (R1 to R11, R17). -/
structure Acquisition where
  /-- The sample timer runs. -/
  running : Bool
  /-- Ticks loaded into the sample timer at its latest load (R1). -/
  load : Nat
  scan : Option Scan
  /-- Cycle index of the next scan (R4). -/
  next : BitVec 6
  closeNumber : Num
  failStreak : Nat
  passStreak : Nat
  /-- Front-end fault flag (R8). -/
  faulty : Bool
  deriving DecidableEq, Repr

/-- A scan record (R5). -/
structure ScanRecord where
  index : BitVec 6
  codes : Channels Code
  /-- Check result, `true` for pass (R7). -/
  pass : Bool
  /-- Over-range flags (R6). -/
  overRange : Channels Bool
  deriving DecidableEq, Repr

/-- The state of a bank; a READY bank has the number of its interval (R12). -/
inductive BankState where
  | free
  | filling
  | ready (interval : Num)
  deriving DecidableEq, Repr

/-- A bank of the sample store (R12). -/
structure Bank where
  state : BankState
  fill : Nat
  records : List ScanRecord
  deriving DecidableEq, Repr

/-- The names of the three banks. -/
inductive BankId where
  | a
  | b
  | c
  deriving DecidableEq, Repr

/-- The sample store: banks A, B and C. -/
structure SampleStore where
  a : Bank
  b : Bank
  c : Bank
  deriving DecidableEq, Repr

/-! ## Synchronizer (02) and engine (03) -/

/-- The lock states (R26 to R29). -/
inductive Lock where
  | unlocked
  | acquiring
  | locked
  | coasting
  deriving DecidableEq, Repr

/-- The synchronizer (R20 to R34). -/
structure Synchronizer where
  lock : Lock
  /-- Period trim F in ticks. -/
  trim : Int
  /-- The frequency code F was formed under (R31, R33). -/
  trimFreq : Option Freq
  /-- Scan period P in ticks. -/
  period : Nat
  lockStreak : Nat
  slipStreak : Nat
  dipStreak : Nat
  deriving DecidableEq, Repr

/-- A run in flight: its number, the two READY banks it reads and H_told at its close (R35, R37). -/
structure Run where
  number : Num
  older : BankId
  newer : BankId
  told : BitVec 16
  deriving DecidableEq, Repr

/-- The compensation engine between events (R35, R36, R40). -/
structure Engine where
  run : Option Run
  /-- Saturation flag of the run. -/
  saturated : Bool
  deriving DecidableEq, Repr

/-! ## History, cross-check and correction (04) -/

/-- A close record (R57). -/
structure CloseRecord where
  number : Num
  d : Triple
  e : Triple
  usable : Bool
  deriving DecidableEq, Repr

/-- The cross-check's streaks and the XCHECK flag (R63). -/
structure CrossCheck where
  outvoted : Nat
  agreement : Nat
  flag : Bool
  deriving DecidableEq, Repr

/-- The correction integrator (R68 to R71). -/
structure Correction where
  c : Triple
  settling : Nat
  deriving DecidableEq, Repr

/-! ## Peer table (06) -/

/-- A PRESENT entry of the peer table, with the station id it is kept under (R93). -/
structure PeerEntry where
  id : Fin 8
  state : Announced
  headroom : BitVec 16
  e : Triple
  d : Triple
  unusable : Bool
  stamp : Num
  deriving DecidableEq, Repr

/-- A view record (R102). -/
structure ViewRecord where
  id : Fin 8
  state : Announced
  headroom : BitVec 16
  e : Triple
  d : Triple
  unusable : Bool
  age : Nat
  fresh : Bool
  counted : Bool
  deriving DecidableEq, Repr

/-- A window view (R102, R103). -/
structure View where
  records : List ViewRecord
  ownCounted : Bool
  deriving DecidableEq, Repr

/-- The names of the two receive banks (R124). -/
inductive RxId where
  | a
  | b
  deriving DecidableEq, Repr

/-- The peer table's work in hand: nothing, the merge of the frame in a bank, or the purge and copy
of a close, which ends by putting `next` in place of the view (R95, R101, R104). -/
inductive TableWork where
  | idle
  | merge (bank : RxId)
  | copy (next : View)
  deriving DecidableEq, Repr

/-- The peer table (R93 to R111). `entries` lists the PRESENT entries by rising id; an id not listed
is EMPTY. -/
structure PeerTable where
  entries : List PeerEntry
  view : View
  /-- Conflict count (R107). -/
  conflict : Nat
  work : TableWork
  deriving DecidableEq, Repr

/-! ## Line controller (07) -/

/-- The contention states (R114). -/
inductive Contention where
  | quiet
  | backoff
  | check
  | sending
  deriving DecidableEq, Repr

/-- A share frame in the transmit slot, with the headroom code and state it announces (R114). -/
structure SlotFrame where
  body : Vector Byte 33
  crc : BitVec 16
  headroom : BitVec 16
  state : Announced
  deriving DecidableEq, Repr

/-- A good frame held in a receive bank, with the interval number at its reception (R126). -/
structure Received where
  body : Vector Byte 33
  stamp : Num
  deriving DecidableEq, Repr

/-- A receive bank (section 7.5). -/
inductive RxBank where
  | free
  | receiving
  | full (f : Received)
  | merging (f : Received)
  deriving DecidableEq, Repr

/-- The receiver: off; on and looking for a delimiter; waiting for the length byte or taking the
body into a bank; or taking nothing in until the line is idle (R123 to R125). -/
inductive Receiver where
  | off
  | hunting
  | length (bank : RxId)
  | body (bank : RxId)
  | waitIdle
  deriving DecidableEq, Repr

/-- The line controller (R112 to R132). -/
structure LineController where
  contention : Contention
  slot : Option SlotFrame
  /-- Attempt count NB. -/
  nb : Nat
  /-- Backoff exponent BE. -/
  be : Nat
  /-- Deadline mark (R121). -/
  mark : Bool
  /-- Backoff units drawn at the latest entry to BACKOFF (R115). -/
  wait : Nat
  /-- Random source (R118). -/
  lfsr : BitVec 16
  /-- Carrier sense reports the line busy (R112). -/
  busy : Bool
  rx : Receiver
  bankA : RxBank
  bankB : RxBank
  lastClaimed : RxId
  /-- Banks that wait for the peer table or are being merged, earliest reception first (R95). -/
  order : List RxId
  badFrames : Nat
  sendMissed : Nat
  rxOverruns : Nat
  deriving DecidableEq, Repr

/-! ## Plan ring and streamer (08) -/

/-- The mode of a plan slot (R133). -/
inductive PlanMode where
  | normal
  | fade
  deriving DecidableEq, Repr

/-- The record of a slot that is not EMPTY (R133). -/
structure Plan where
  target : Num
  mode : PlanMode
  triple : Triple
  deriving DecidableEq, Repr

/-- A slot of the plan ring (R133). -/
inductive Slot where
  | empty
  | pending (p : Plan)
  | playing (p : Plan)
  deriving DecidableEq, Repr

/-- The plan ring (R133). -/
structure PlanRing where
  slot0 : Slot
  slot1 : Slot
  slot2 : Slot
  slot3 : Slot
  writeIndex : Fin 4
  /-- Latest-write record (R88). -/
  latest : Option Triple
  deriving DecidableEq, Repr

/-- The streamer's state; every state but IDLE holds a source triple (R135). -/
inductive Play where
  | idle
  | ramping (t : Triple)
  | playing (t : Triple)
  | holding (t : Triple)
  | fading (t : Triple)
  deriving DecidableEq, Repr

/-- The reference streamer (R135, R138). -/
structure Streamer where
  play : Play
  /-- Plan-underrun counter. -/
  underruns : Nat
  deriving DecidableEq, Repr

/-! ## Module link (09) -/

/-- A reference word (R149, R180): mode and enable come from the streamer's state. -/
structure RefWord where
  /-- Mode field, 0..4. -/
  mode : BitVec 3
  enable : Bool
  seq : BitVec 4
  values : Phases Code
  crc : Byte
  deriving DecidableEq, Repr

/-- The latest status record (R152, R180). -/
structure StatusRecord where
  ready : Bool
  capability : Byte
  deriving DecidableEq, Repr

/-- The module link (R149 to R159). -/
structure ModuleLink where
  running : Bool
  /-- Outgoing sequence. -/
  seq : BitVec 4
  /-- The reference word of the latest expiry since the link started. -/
  word : Option RefWord
  /-- A good status word was taken in the scan period in progress (R153). -/
  answered : Bool
  /-- The sample timer has expired and the silence declared at that expiry was taken before the expiry's own
  step, which comes next (R140, R153; notes/assumptions/10.md). -/
  expiryDue : Bool
  status : Option StatusRecord
  silence : Nat
  lost : Bool
  tripLatch : Bool
  /-- Capability snapshot (R156). -/
  snapshot : Byte
  deriving DecidableEq, Repr

/-! ## The whole state -/

/-- The state of the part and the queue of commands that wait. -/
structure State where
  pins : Pins
  station : Station
  acq : Acquisition
  store : SampleStore
  sync : Synchronizer
  engine : Engine
  /-- Close history, newest record first (R57, R58). -/
  history : List CloseRecord
  xcheck : CrossCheck
  corr : Correction
  peers : PeerTable
  line : LineController
  plan : PlanRing
  streamer : Streamer
  link : ModuleLink
  /-- Sequence counter of the frame builder (R176). -/
  sequence : BitVec 8
  /-- Commands that wait, first in first out: the model's own field. -/
  pending : List Instr
  deriving DecidableEq, Repr

/-- The stops of the model. Each is an order of commands that the spec's own time margins exclude
(notes/assumptions/4.md); all are safe: the model stops where no hardware run goes. -/
inductive Fault where
  /-- SAMPLE_TIMER_EXPIRY during a scan: "A scan always completes before the next expiry" (R3). Safe. -/
  | expiryDuringScan
  /-- A window close while a run is in flight: "The engine is idle at every close" (R35). Safe. -/
  | closeDuringRun
  /-- A window close while the copy of the close before it is in hand (R101: 48 µs). Safe. -/
  | closeDuringCopy
  /-- RUN_COMPLETION while the copy of its own close is in hand (R37). Safe. -/
  | completionDuringCopy
  /-- RUN_COMPLETION with a frame in the transmit slot: "The slot is always empty when it is
  filled" (R114). Safe. -/
  | slotOccupied
  deriving DecidableEq, Repr

/-- Refusals. No command of this model is refused. -/
inductive Refusal where
  /-- Raised by an arm of exec without a meaning; no arm of this model raises it. Safe. -/
  | notModelled (mnemonic : String)
  deriving DecidableEq, Repr

/-! ## Reset values -/

/-- No hold cause. -/
def Causes.none : Causes := ⟨false, false, false, false, false⟩

/-- R175. -/
def Station.reset : Station :=
  { state := .off, waiting := true, causes := .none, quench := false, listenCount := 0
    reentryCount := 0, announced := false, told := 0, setup := none }

/-- R17. -/
def Acquisition.reset : Acquisition :=
  { running := false, load := 0, scan := none, next := 0, closeNumber := 0, failStreak := 0
    passStreak := 0, faulty := false }

/-- R17: FREE with fill count 0. What the record memory holds is not stated, and no block reads a FREE bank
(R12): DESIGN CHOICE no record, at power-on and at a reset-line assertion (notes/assumptions/25.md). -/
def Bank.reset : Bank := ⟨.free, 0, []⟩

/-- R17. -/
def SampleStore.reset : SampleStore := ⟨.reset, .reset, .reset⟩

/-- R31. The period has no value before SETUP exit: DESIGN CHOICE 0 (notes/assumptions/6.md). -/
def Synchronizer.reset : Synchronizer :=
  { lock := .unlocked, trim := 0, trimFreq := none, period := 0, lockStreak := 0, slipStreak := 0
    dipStreak := 0 }

/-- R40. -/
def Engine.reset : Engine := ⟨none, false⟩

/-- R65. -/
def CrossCheck.reset : CrossCheck := ⟨0, 0, false⟩

/-- R71. -/
def Correction.reset : Correction := ⟨.zero, 0⟩

/-- R109. -/
def PeerTable.reset : PeerTable := ⟨[], ⟨[], false⟩, 0, .idle⟩

/-- R130. The random source is unseeded: DESIGN CHOICE 0 (notes/assumptions/6.md). -/
def LineController.reset : LineController :=
  { contention := .quiet, slot := none, nb := 0, be := 2, mark := false, wait := 0, lfsr := 0
    busy := false, rx := .off, bankA := .free, bankB := .free, lastClaimed := .b, order := []
    badFrames := 0, sendMissed := 0, rxOverruns := 0 }

/-- R148. -/
def PlanRing.reset : PlanRing := ⟨.empty, .empty, .empty, .empty, 3, none⟩

/-- R148. -/
def Streamer.reset : Streamer := ⟨.idle, 0⟩

/-- R158. With no word sent, none is answered and no expiry is due (notes/assumptions/6.md). -/
def ModuleLink.reset : ModuleLink :=
  { running := false, seq := 0, word := none, answered := false, expiryDue := false, status := none
    silence := 0, lost := false, tripLatch := false, snapshot := 0 }

/-- The part right after a power-on (R160): every block at its power-on values, the station OFF and
the power-on wait running. -/
def State.reset : State :=
  { pins := ⟨true, true, false, false, []⟩
    station := .reset
    acq := .reset
    store := .reset
    sync := .reset
    engine := .reset
    history := []
    xcheck := .reset
    corr := .reset
    peers := .reset
    line := .reset
    plan := .reset
    streamer := .reset
    link := .reset
    sequence := 0
    pending := [] }

end Sys2Proof.Machine
end

