-- ==== Sys2Proof/Machine/Formats.lean ====
section
/-! DEFINITION. The formats the part sends and their checks: CRC-16 and CRC-8, the share frame and
the reference word (11_formats). -/

namespace Sys2Proof.Machine

open Sys2Proof

/-! ## CRCs -/

/-- One shift of the CRC-16 register (R177, step 3). -/
def crc16Shift (r : BitVec 16) : BitVec 16 :=
  if r.msb then (r <<< 1) ^^^ 0x1021#16 else r <<< 1

/-- The CRC-16 register after one byte (R177, steps 2 and 3). -/
def crc16Byte (r : BitVec 16) (b : Byte) : BitVec 16 :=
  Nat.repeat crc16Shift 8 (r ^^^ (b.zeroExtend 16 <<< 8))

/-- The CRC-16 of a list of bytes (R177). -/
def crc16 (bytes : List Byte) : BitVec 16 := bytes.foldl crc16Byte 0xFFFF#16

/-- One shift of the CRC-8 register (R179, step 3). -/
def crc8Shift (r : Byte) : Byte := if r.msb then (r <<< 1) ^^^ 0x07#8 else r <<< 1

/-- The CRC-8 register after one byte (R179, steps 2 and 3). -/
def crc8Byte (r b : Byte) : Byte := Nat.repeat crc8Shift 8 (r ^^^ b)

/-- The CRC-8 of a list of bytes (R179). -/
def crc8 (bytes : List Byte) : Byte := bytes.foldl crc8Byte 0xFF#8

/-! ## The share frame (section 11.1) -/

/-- The length byte of a share frame. -/
def lengthByte : Byte := 33#8

/-- The CRC-16 of a share frame: over the length byte and the body (R177). -/
def frameCrc (body : Vector Byte 33) : BitVec 16 := crc16 (lengthByte :: body.toList)

/-- The code of a flag. -/
def bit (b : Bool) : BitVec 1 := BitVec.ofBool b

/-- The high, middle and low byte of a fraction code. -/
def fracHigh (x : Frac) : Byte := x.extractLsb' 16 8

/-- The middle byte of a fraction code. -/
def fracMid (x : Frac) : Byte := x.extractLsb' 8 8

/-- The low byte of a fraction code. -/
def fracLow (x : Frac) : Byte := x.extractLsb' 0 8

/-- The code of an announced state (section 11.1, body byte 7). -/
def announcedCode : Announced → BitVec 2
  | .listen => 0
  | .active => 1
  | .hold => 2

/-- The five window flags (section 11.1, body byte 8). -/
structure WindowFlags where
  clipped : Bool
  unusable : Bool
  overRange : Bool
  coasting : Bool
  frozen : Bool
  deriving DecidableEq, Repr

/-- The four status counters (R129). -/
structure Counters where
  badFrames : Nat
  sendMissed : Nat
  underruns : Nat
  overruns : Nat
  deriving DecidableEq, Repr

/-- Everything a share frame's body carries (R176). -/
structure FrameFields where
  group : BitVec 4
  id : Fin 8
  adjusted : Bool
  serial : BitVec 32
  sequence : BitVec 8
  state : Announced
  causes : Causes
  conflictSeen : Bool
  flags : WindowFlags
  headroom : BitVec 16
  e : Triple
  d : Triple
  counters : Counters
  deriving DecidableEq, Repr

/-- Body byte 1: group code, station id, setup-adjusted flag. -/
def idByte (f : FrameFields) : Byte := f.group ++ BitVec.ofNat 3 f.id.val ++ bit f.adjusted

/-- Body byte 7: state, hold-cause set, conflict-seen. -/
def stateByte (f : FrameFields) : Byte :=
  announcedCode f.state ++ bit f.causes.sync ++ bit f.causes.module ++ bit f.causes.frontend
    ++ bit f.causes.quench ++ bit f.causes.xcheck ++ bit f.conflictSeen

/-- Body byte 8: three zero bits and the window flags. -/
def flagsByte (w : WindowFlags) : Byte :=
  0#3 ++ bit w.clipped ++ bit w.unusable ++ bit w.overRange ++ bit w.coasting ++ bit w.frozen

/-- The body of a share frame, 33 bytes at the positions of section 11.1 (R176). -/
def frameBody (f : FrameFields) : Vector Byte 33 :=
  #v[0x11#8, idByte f,
     f.serial.extractLsb' 24 8, f.serial.extractLsb' 16 8, f.serial.extractLsb' 8 8,
     f.serial.extractLsb' 0 8,
     f.sequence, stateByte f, flagsByte f.flags,
     f.headroom.extractLsb' 8 8, f.headroom.extractLsb' 0 8,
     fracHigh f.e.q, fracMid f.e.q, fracLow f.e.q,
     fracHigh f.e.re, fracMid f.e.re, fracLow f.e.re,
     fracHigh f.e.im, fracMid f.e.im, fracLow f.e.im,
     fracHigh f.d.q, fracMid f.d.q, fracLow f.d.q,
     fracHigh f.d.re, fracMid f.d.re, fracLow f.d.re,
     fracHigh f.d.im, fracMid f.d.im, fracLow f.d.im,
     BitVec.ofNat 8 f.counters.badFrames, BitVec.ofNat 8 f.counters.sendMissed,
     BitVec.ofNat 8 f.counters.underruns, BitVec.ofNat 8 f.counters.overruns]

/-- The share frame of a run as it stands in the transmit slot: body, CRC, and the headroom code and
state read again at transmission completion (R114, R176). -/
def shareFrame (f : FrameFields) : SlotFrame :=
  { body := frameBody f, crc := frameCrc (frameBody f), headroom := f.headroom, state := f.state }

/-- The 41 bytes of a frame on the line: four preamble bytes, the start delimiter, the length byte,
the body and the CRC, high byte first (section 11.1). -/
def lineBytes (f : SlotFrame) : List Byte :=
  [0xAA#8, 0xAA#8, 0xAA#8, 0xAA#8, 0x9E#8, lengthByte] ++ f.body.toList
    ++ [f.crc.extractLsb' 8 8, f.crc.extractLsb' 0 8]

/-! ## The reference word (section 11.2) -/

/-- The mode code of a streamer state. -/
def modeCode : Play → BitVec 3
  | .idle => 0
  | .ramping _ => 1
  | .playing _ => 2
  | .holding _ => 3
  | .fading _ => 4

/-- The enable mark: set in every state but IDLE (R135, R146). -/
def enableMark : Play → Bool
  | .idle => false
  | .ramping _ => true
  | .playing _ => true
  | .holding _ => true
  | .fading _ => true

/-- Bytes 0 to 6 of a reference word (section 11.2). -/
def refWordBytes (mode : BitVec 3) (enable : Bool) (seq : BitVec 4) (v : Phases Code) : List Byte :=
  [mode ++ bit enable ++ seq,
   v.a.extractLsb' 8 8, v.a.extractLsb' 0 8,
   v.b.extractLsb' 8 8, v.b.extractLsb' 0 8,
   v.c.extractLsb' 8 8, v.c.extractLsb' 0 8]

/-- The reference word of a streamer state, a sequence and three output values, with its CRC-8
(R149, R179, R180). -/
def refWord (p : Play) (seq : BitVec 4) (v : Phases Code) : RefWord :=
  { mode := modeCode p, enable := enableMark p, seq, values := v
    crc := crc8 (refWordBytes (modeCode p) (enableMark p) seq v) }

/-- The eight bytes of a reference word on the link (section 11.2). -/
def RefWord.bytes (w : RefWord) : List Byte :=
  refWordBytes w.mode w.enable w.seq w.values ++ [w.crc]

end Sys2Proof.Machine
end

