-- ==== Sys2Proof/Machine/Flags.lean ====
section
/-! DEFINITION. The flags the part forms: over-range flags, the check result, the window summaries,
the window flags of a frame and the hold-cause set. -/

namespace Sys2Proof.Machine

open Sys2Proof

/-- The over-range flag of a code: set at either end of the converter's range (R6). -/
def overRangeFlag (c : Code) : Bool := decide (c.toInt = 32767) || decide (c.toInt = -32768)

/-- The check result of a scan: REFH at an even cycle index, REFL at an odd one (R7). -/
def checkPasses (index : BitVec 6) (c : Code) : Bool :=
  if index.toNat % 2 = 0 then decide (29163 ≤ c.toInt) && decide (c.toInt ≤ 29819)
  else decide (-29819 ≤ c.toInt) && decide (c.toInt ≤ -29163)

/-- The window's check summary passes: no record's check failed (R9). -/
def checkSummary (records : List ScanRecord) : Bool := records.all fun r => r.pass

/-- The window's over-range summary (R9). -/
def overRangeSummary (records : List ScanRecord) : Bool := records.any fun r => r.overRange.any

/-- Hold cause SYNC (R30). -/
def syncCause : Lock → Bool
  | .unlocked => true
  | .acquiring => true
  | .locked => false
  | .coasting => false

/-- Hold cause MODULE (R157). -/
def moduleCause (l : ModuleLink) : Bool :=
  (match l.status with
   | none => true
   | some r => !r.ready)
    || l.tripLatch || l.lost

/-- The hold-cause set of an evaluation, from its five sources (R167). -/
def holdCauses (lock : Lock) (l : ModuleLink) (faulty quench xcheck : Bool) : Causes :=
  { sync := syncCause lock, module := moduleCause l, frontend := faulty, quench, xcheck }

/-- Whether any hold cause is present (R169, R170). -/
def Causes.any (c : Causes) : Bool := c.sync || c.module || c.frontend || c.quench || c.xcheck

/-- Whether one of MODULE, FRONTEND, QUENCH, XCHECK is present (R168). -/
def Causes.anyButSync (c : Causes) : Bool := c.module || c.frontend || c.quench || c.xcheck

end Sys2Proof.Machine
end

