-- ==== Sys2Proof/Machine/Control.lean ====
section
/-! DEFINITION. The station controller's own operations: the evaluation at a run completion and the
state transitions (10). -/

namespace Sys2Proof.Machine

open Sys2Proof

/-- Whether runs complete in full, the line controller and the module link run: LISTEN, ACTIVE, HOLD. -/
def StationState.live : StationState → Bool
  | .off => false
  | .setup => false
  | .listen => true
  | .active => true
  | .hold => true
  | .fault => false

/-- The state a frame announces, in the states that build frames (R176). -/
def StationState.announce : StationState → Announced
  | .active => .active
  | .hold => .hold
  | .off | .setup | .listen | .fault => .listen

/-- The own counted status at a close: ACTIVE with the announced flag set (R74, R103). -/
def Station.counted (st : Station) : Bool := decide (st.state = .active) && st.announced

/-- The evaluation of LISTEN (R168). -/
def Station.evaluateListen (st : Station) (v : Setup) (lock : Lock) (c : Causes) : Station :=
  let n := bump 255 st.listenCount
  if decide (v.listenPeriod ≤ n) && decide (lock = .locked) && !c.anyButSync then
    { st with causes := c, listenCount := n, state := .active, announced := false }
  else { st with causes := c, listenCount := n }

/-- The evaluation of ACTIVE (R169, R171). -/
def Station.evaluateActive (st : Station) (c : Causes) : Station :=
  if c.any then { st with causes := c, state := .hold, reentryCount := 0, announced := false }
  else { st with causes := c }

/-- The evaluation of HOLD (R170, R171). -/
def Station.evaluateHold (st : Station) (v : Setup) (c : Causes) : Station :=
  if c.any then { st with causes := c, reentryCount := 0 }
  else if v.reentryPeriod ≤ st.reentryCount + 1 then
    { st with
      causes := c, reentryCount := st.reentryCount + 1, state := .active, announced := false }
  else { st with causes := c, reentryCount := st.reentryCount + 1 }

/-- The evaluation of a run completion (step 5 of R39; R167 to R170). -/
def Station.evaluate (st : Station) (v : Setup) (lock : Lock) (c : Causes) : Station :=
  match st.state with
  | .listen => st.evaluateListen v lock c
  | .active => st.evaluateActive c
  | .hold => st.evaluateHold v c
  | .off => st
  | .setup => st
  | .fault => st

/-- A clean transmission completion of a frame (R122, R171). -/
def Station.sent (st : Station) (f : SlotFrame) : Station :=
  { st with told := f.headroom, announced := st.announced || decide (f.state = .active) }

end Sys2Proof.Machine
end

