-- ==== Sys2Proof/Machine/Operands.lean ====
section
/-! DEFINITION. What the part reads from the bytes it is handed: the fields of a received share
frame, of a status word and of the setup image (11_formats). -/

namespace Sys2Proof.Machine

open Sys2Proof

/-! ## A received share frame (R125, R178) -/

/-- The announced state a body names; the code 3 names none. -/
def bodyState (body : Vector Byte 33) : Option Announced :=
  match (body[7].extractLsb' 6 2 : BitVec 2).toNat with
  | 0 => some .listen
  | 1 => some .active
  | 2 => some .hold
  | _ => none

/-- The group code of a body. -/
def bodyGroup (body : Vector Byte 33) : BitVec 4 := body[1].extractLsb' 4 4

/-- The station id of a body. -/
def bodyId (body : Vector Byte 33) : Fin 8 := Fin.ofNat 8 (body[1].extractLsb' 1 3 : BitVec 3).toNat

/-- The serial of a body. -/
def bodySerial (body : Vector Byte 33) : BitVec 32 := body[2] ++ body[3] ++ body[4] ++ body[5]

/-- The headroom code of a body. -/
def bodyHeadroom (body : Vector Byte 33) : BitVec 16 := body[9] ++ body[10]

/-- The unusable flag of a body. -/
def bodyUnusable (body : Vector Byte 33) : Bool := body[8].getLsbD 3

/-- The E triple of a body. -/
def bodyE (body : Vector Byte 33) : Triple :=
  ⟨body[11] ++ body[12] ++ body[13], body[14] ++ body[15] ++ body[16],
   body[17] ++ body[18] ++ body[19]⟩

/-- The D triple of a body. -/
def bodyD (body : Vector Byte 33) : Triple :=
  ⟨body[20] ++ body[21] ++ body[22], body[23] ++ body[24] ++ body[25],
   body[26] ++ body[27] ++ body[28]⟩

/-- The receive checks at the frame-reception completion: CRC, kind and format, state (R125). -/
def frameGood (body : Vector Byte 33) (crc : BitVec 16) : Bool :=
  decide (frameCrc body = crc) && decide (body[0] = 0x11#8) && (bodyState body).isSome

/-- The peer entry a frame writes: every field of R93, taken from the frame and its stamp (R96).
`none` for a body that names no state, which the receive checks never pass on. -/
def frameEntry (f : Received) : Option PeerEntry :=
  (bodyState f.body).map fun st =>
    { id := bodyId f.body, state := st, headroom := bodyHeadroom f.body, e := bodyE f.body
      d := bodyD f.body, unusable := bodyUnusable f.body, stamp := f.stamp }

/-! ## A status word (R152, R180) -/

/-- Byte 0, 1 or 2 of a 24-bit status word. -/
def statusByte (word : BitVec 24) (i : Nat) : Byte := word.extractLsb' (16 - 8 * i) 8

/-- The ready flag: byte 0, bit 7. -/
def statusReady (word : BitVec 24) : Bool := (statusByte word 0).getLsbD 7

/-- The tripped flag: byte 0, bit 6. -/
def statusTripped (word : BitVec 24) : Bool := (statusByte word 0).getLsbD 6

/-- The echoed sequence: byte 0, bits 3 to 0. -/
def statusEcho (word : BitVec 24) : BitVec 4 := (statusByte word 0).extractLsb' 0 4

/-- The capability: byte 1. -/
def statusCapability (word : BitVec 24) : Byte := statusByte word 1

/-- Whether a word is good: 24 bits, CRC-8 checks, and the echo equals the sequence of the reference
word sent at the latest expiry; with no word sent none matches (R152, R179). -/
def statusGood (sent : Option RefWord) (bits : Nat) (word : BitVec 24) : Bool :=
  decide (bits = 24)
    && decide (crc8 [statusByte word 0, statusByte word 1] = statusByte word 2)
    && match sent with
       | none => false
       | some w => decide (statusEcho word = w.seq)

/-! ## The setup image (R163, R164, R181, R182) -/

/-- What the part sends to the setup memory: the read instruction and a two-byte address of zero, before it
clocks in the 32 image bytes (R181). -/
def setupRequest : List Byte := [0x03#8, 0x00#8, 0x00#8]

/-- The format byte a good image carries. -/
def formatByte : Byte := 0x51#8

/-- A four-byte field, high byte first. -/
def word32 (b0 b1 b2 b3 : Byte) : BitVec 32 := b0 ++ b1 ++ b2 ++ b3

/-- The serial of an image, bytes 4 to 7. -/
def imageSerial (m : Vector Byte 32) : BitVec 32 := word32 m[4] m[5] m[6] m[7]

/-- The frequency code of an image, where it is 50 or 60. -/
def imageFreq (m : Vector Byte 32) : Option Freq :=
  if m[3] = 50#8 then some .hz50 else if m[3] = 60#8 then some .hz60 else none

/-- The fraction fields Imax, Vmin, Cmax, Tx of an image as signed 32-bit numbers (R182). -/
def imageImax (m : Vector Byte 32) : Int := (word32 m[8] m[9] m[10] m[11]).toInt

/-- Vmin, bytes 12 to 15. -/
def imageVmin (m : Vector Byte 32) : Int := (word32 m[12] m[13] m[14] m[15]).toInt

/-- Cmax, bytes 16 to 19. -/
def imageCmax (m : Vector Byte 32) : Int := (word32 m[16] m[17] m[18] m[19]).toInt

/-- Tx, bytes 20 to 23. -/
def imageTx (m : Vector Byte 32) : Int := (word32 m[20] m[21] m[22] m[23]).toInt

/-- N_L, bytes 26 and 27. -/
def imageListen (m : Vector Byte 32) : Nat := (m[26] ++ m[27] : BitVec 16).toNat

/-- N_R, bytes 28 and 29. -/
def imageReentry (m : Vector Byte 32) : Nat := (m[28] ++ m[29] : BitVec 16).toNat

/-- The four checks of R163: CRC-16 over bytes 0 to 29, format byte, serial, frequency code. -/
def imagePasses (m : Vector Byte 32) : Bool :=
  decide (crc16 (m.toList.take 30) = (m[30] ++ m[31] : BitVec 16))
    && decide (m[0] = formatByte)
    && decide (imageSerial m ≠ 0#32) && decide (imageSerial m ≠ 0xFFFFFFFF#32)
    && (imageFreq m).isSome

/-- Whether a number lies in `lo..hi`. -/
def inRange (lo hi x : Int) : Bool := decide (lo ≤ x) && decide (x ≤ hi)

/-- Whether every field that R164 clamps already lies in its range. -/
def imageInRange (m : Vector Byte 32) : Bool :=
  inRange 0 15 m[1].toNat && inRange 0 7 m[2].toNat
    && inRange 32768 4194304 (imageImax m) && inRange 419430 7549747 (imageVmin m)
    && inRange 0 2097152 (imageCmax m) && inRange 83886 4194304 (imageTx m)
    && inRange 1 8 m[24].toNat && inRange 0 3 m[25].toNat
    && inRange 8 255 (imageListen m) && inRange 4 255 (imageReentry m)

/-- The values in use after a read of image `m` with frequency `f`: every field brought into its
range, and the setup-adjusted flag set where any was replaced (R164, R182). -/
def imageSetup (m : Vector Byte 32) (f : Freq) : Setup :=
  { group := BitVec.ofNat 4 (clamp 0 15 m[1].toNat).toNat
    id := Fin.ofNat 8 (clamp 0 7 m[2].toNat).toNat
    freq := f
    serial := imageSerial m
    imax := (clamp 32768 4194304 (imageImax m)).toNat
    vmin := (clamp 419430 7549747 (imageVmin m)).toNat
    cmax := (clamp 0 2097152 (imageCmax m)).toNat
    tx := (clamp 83886 4194304 (imageTx m)).toNat
    aging := (clamp 1 8 m[24].toNat).toNat
    gain := (clamp 0 3 m[25].toNat).toNat
    listenPeriod := (clamp 8 255 (imageListen m)).toNat
    reentryPeriod := (clamp 4 255 (imageReentry m)).toNat
    adjusted := !imageInRange m }

/-- The setup values of an image: present where the image passes its four checks (R163, R164). -/
def readImage (m : Vector Byte 32) : Option Setup :=
  if imagePasses m then (imageFreq m).map (imageSetup m) else none

end Sys2Proof.Machine
end

