-- ==== Sys2Proof/Machine/LineControl.lean ====
section
/-! DEFINITION. The line controller's own operations: random source, contention, drops, carrier sense
and the two receive banks (07). -/

namespace Sys2Proof.Machine

open Sys2Proof

/-! ## Transmit side -/

/-- The bit a step of the random source forms: s0 XOR s2 XOR s3 XOR s5 (R118). -/
def lfsrBit (s : BitVec 16) : Bool :=
  ((s.getLsbD 0 ^^ s.getLsbD 2) ^^ s.getLsbD 3) ^^ s.getLsbD 5

/-- One step of the random source (R118). -/
def lfsrStep (s : BitVec 16) : BitVec 16 := bit (lfsrBit s) ++ s.extractLsb' 1 15

/-- The seed of a serial (R118). -/
def lfsrSeed (serial : BitVec 32) : BitVec 16 :=
  if (serial.extractLsb' 0 16 : BitVec 16) = 0 then 0xACE1#16 else serial.extractLsb' 0 16

/-- The value of a draw: the lowest `be` bits of the stepped register (R115). -/
def drawValue (s : BitVec 16) (be : Nat) : Nat := s.toNat % 2 ^ be

/-- Entry to BACKOFF: one draw, and CHECK at once where it is 0 (R115). -/
def LineController.enterBackoff (l : LineController) : LineController :=
  let s := lfsrStep l.lfsr
  let r := drawValue s l.be
  { l with lfsr := s, wait := r, contention := if r = 0 then .check else .backoff }

/-- The frame is dropped BUSY or LATE: the slot empties, QUIET, send missed raised (R117, R120,
R121, R128). -/
def LineController.drop (l : LineController) : LineController :=
  { l with slot := none, contention := .quiet, sendMissed := bump 255 l.sendMissed }

/-- A failure of an attempt raises NB and BE (R117, R120). -/
def LineController.countFailure (l : LineController) : LineController :=
  { l with nb := l.nb + 1, be := bump 5 l.be }

/-- A failed clear check (R117). -/
def LineController.checkFailed (l : LineController) : LineController :=
  let l := l.countFailure
  if 4 < l.nb then l.drop else l.enterBackoff

/-- A collision in SENDING: dropped BUSY, else dropped LATE, else retried (R120). -/
def LineController.collide (l : LineController) : LineController :=
  let l := l.countFailure
  if 4 < l.nb then l.drop
  else if l.mark then l.drop
  else l.enterBackoff

/-- The send deadline (R121). -/
def LineController.deadline (l : LineController) : LineController :=
  match l.contention with
  | .quiet => l
  | .backoff => l.drop
  | .check => l.drop
  | .sending => { l with mark := true }

/-- A frame enters the slot: NB 0, BE 2, mark clear, and BACKOFF with a first draw (R114). -/
def LineController.fill (l : LineController) (f : SlotFrame) : LineController :=
  { l with slot := some f, nb := 0, be := 2, mark := false }.enterBackoff

/-! ## Carrier sense -/

/-- Carrier sense goes from idle to busy: a clear check being timed fails (R112, R116, R117). A line
already busy stays so. -/
def LineController.goBusy (l : LineController) : LineController :=
  if l.busy then l
  else
    match l.contention with
    | .quiet => { l with busy := true }
    | .backoff => { l with busy := true }
    | .check => { l with busy := true }.checkFailed
    | .sending => { l with busy := true }

/-! ## Receive side -/

/-- The bank of a name. -/
def LineController.bank (l : LineController) : RxId → RxBank
  | .a => l.bankA
  | .b => l.bankB

/-- The controller with one bank replaced. -/
def LineController.setBank (l : LineController) (i : RxId) (b : RxBank) : LineController :=
  match i with
  | .a => { l with bankA := b }
  | .b => { l with bankB := b }

/-- The other bank. -/
def RxId.other : RxId → RxId
  | .a => .b
  | .b => .a

/-- Whether a bank is FREE. -/
def RxBank.isFree : RxBank → Bool
  | .free => true
  | .receiving => false
  | .full _ => false
  | .merging _ => false

/-- The bank a start delimiter claims: the one not claimed last, else the one claimed last (R124). -/
def LineController.claimable (l : LineController) : Option RxId :=
  if (l.bank l.lastClaimed.other).isFree then some l.lastClaimed.other
  else if (l.bank l.lastClaimed).isFree then some l.lastClaimed
  else none

/-- A start delimiter at a receiver that looks for one (R124). -/
def LineController.delimiter (l : LineController) : LineController :=
  match l.claimable with
  | some i => { l.setBank i .receiving with lastClaimed := i, rx := .length i }
  | none => { l with rx := .waitIdle, rxOverruns := bump 255 l.rxOverruns }

/-- A frame fails a receive check: its bank is FREE, the bad-frame counter raised, and nothing is
taken in until the line is idle (R125). -/
def LineController.failFrame (l : LineController) (i : RxId) : LineController :=
  { l.setBank i .free with rx := .waitIdle, badFrames := bump 255 l.badFrames }

/-- A good frame of another group frees its bank (R126). -/
def LineController.dropForeign (l : LineController) (i : RxId) : LineController :=
  { l.setBank i .free with rx := .waitIdle }

/-- A good frame of this group: its bank is FULL, with the interval number (R126). -/
def LineController.acceptFrame (l : LineController) (i : RxId) (f : Received) : LineController :=
  { l.setBank i (.full f) with rx := .waitIdle, order := l.order ++ [i] }

/-- The frame-reception completion into bank `i` (R125, R126). -/
def LineController.received (l : LineController) (i : RxId) (group : BitVec 4)
    (body : Vector Byte 33) (crc : BitVec 16) (stamp : Num) : LineController :=
  if frameGood body crc then
    if bodyGroup body = group then l.acceptFrame i ⟨body, stamp⟩ else l.dropForeign i
  else l.failFrame i

/-- Carrier sense reports the line idle: a reception cut short fails, and the receiver, turned on if
it was off, looks for a delimiter (R112, R122 to R125). In SENDING the station's own light keeps the
line busy. -/
def LineController.goIdle (l : LineController) : LineController :=
  match l.contention with
  | .sending => l
  | .quiet | .backoff | .check =>
    match l.rx with
    | .off => { l with busy := false, rx := .hunting }
    | .hunting => { l with busy := false }
    | .length i => { l.failFrame i with busy := false, rx := .hunting }
    | .body i => { l.failFrame i with busy := false, rx := .hunting }
    | .waitIdle => { l with busy := false, rx := .hunting }

/-! ## Banks and the peer table -/

/-- A FULL bank becomes MERGING (R95, R127). -/
def LineController.beginMerge (l : LineController) (i : RxId) : LineController :=
  match l.bank i with
  | .full f => l.setBank i (.merging f)
  | .free | .receiving | .merging _ => l

/-- A merge abandoned at a close: the bank is FULL again with its frame and stamp (R101, R127). -/
def LineController.abandonMerge (l : LineController) (i : RxId) : LineController :=
  match l.bank i with
  | .merging f => l.setBank i (.full f)
  | .free | .receiving | .full _ => l

/-- A merge has ended: the bank is FREE and waits no longer (R95, R127). -/
def LineController.endMerge (l : LineController) (i : RxId) : LineController :=
  { l.setBank i .free with order := l.order.erase i }

/-! ## Start and stop -/

/-- LISTEN entry: QUIET with an empty slot, the random source seeded, both banks FREE, the receiver
on (R113, R118). -/
def LineController.start (l : LineController) (serial : BitVec 32) : LineController :=
  { l with
    contention := .quiet, slot := none, lfsr := lfsrSeed serial, busy := false, rx := .hunting
    bankA := .free, bankB := .free, order := [] }

/-- FAULT entry: both sides stop, the slot and the banks are emptied, no counter moves (R131). What carrier
sense holds where it does not work, from FAULT entry on, is not stated (R112): DESIGN CHOICE idle
(notes/assumptions/23.md). -/
def LineController.stop (l : LineController) : LineController :=
  { l with
    contention := .quiet, slot := none, busy := false, rx := .off, bankA := .free, bankB := .free
    order := [] }

/-- Reset-line assertion: the values of R130; the random source is seeded anew at SETUP exit and
keeps its value until then. Carrier sense, which R130 does not name, is idle (notes/assumptions/23.md). -/
def LineController.restart (l : LineController) : LineController :=
  { LineController.reset with lfsr := l.lfsr }

end Sys2Proof.Machine
end

