-- ==== Sys2Proof/Machine/Link.lean ====
section
/-! DEFINITION. The module link's own operations: reference words, status words, silence and the
capability snapshot (09). -/

namespace Sys2Proof.Machine

open Sys2Proof

/-- LISTEN entry: the link starts (R151). The other values stand as the reset left them (R158). -/
def ModuleLink.start (l : ModuleLink) : ModuleLink := { l with running := true }

/-- The link stops (R151); the registers keep their values (R158). -/
def ModuleLink.stop (l : ModuleLink) : ModuleLink := { l with running := false }

/-- Whether the silence test of the expiry at hand raises the counter: a word was sent before, and the
scan period just ended took no good status word (R153). -/
def ModuleLink.unanswered (l : ModuleLink) : Bool := l.word.isSome && !l.answered

/-- The silence counter after the test of an expiry (R153). -/
def ModuleLink.silenceNext (l : ModuleLink) : Nat :=
  if l.unanswered then bump Config.silenceLimit l.silence else l.silence

/-- Whether the expiry at hand declares module-link silence: the counter reaches 64 at it and the lost
flag is not already set (R153). -/
def ModuleLink.declares (l : ModuleLink) : Bool :=
  l.unanswered && decide (Config.silenceLimit ≤ l.silence + 1) && !l.lost

/-- The link after an expiry whose reference word has mode and enable of `p` and values `v`: the word
is sent with the outgoing sequence, which is raised; the silence test is made on the scan period just
ended; a new scan period begins (R149, R153). -/
def ModuleLink.expire (l : ModuleLink) (p : Play) (v : Phases Code) : ModuleLink :=
  { l with
    seq := l.seq + 1
    word := some (refWord p l.seq v)
    answered := false
    expiryDue := false
    silence := l.silenceNext
    lost := l.lost || l.declares }

/-- Module-link silence declared at an expiry, before the expiry's own step (R140, R153): the counter
reaches 64 and the lost flag is set. The scan period it looks back on has ended, so the expiry is due. -/
def ModuleLink.declareLost (l : ModuleLink) : ModuleLink :=
  { l with silence := Config.silenceLimit, lost := true, expiryDue := true }

/-- Whether a status word is taken: the link runs, the word is good, and no expiry is due. A word that ends
at an expiry already taken echoes the sequence of the scan just ended and is ignored (R152, section 9.2). -/
def ModuleLink.takes (l : ModuleLink) (bits : Nat) (word : BitVec 24) : Bool :=
  l.running && !l.expiryDue && statusGood l.word bits word

/-- A good status word is taken (R152 to R155). -/
def ModuleLink.takeStatus (l : ModuleLink) (word : BitVec 24) : ModuleLink :=
  { l with
    answered := true
    status := some ⟨statusReady word, statusCapability word⟩
    silence := 0
    lost := false
    tripLatch := l.tripLatch || statusTripped word }

/-- The capability snapshot of a close (R156). -/
def ModuleLink.takeSnapshot (l : ModuleLink) : ModuleLink :=
  { l with
    snapshot :=
      if l.lost then 0
      else
        match l.status with
        | none => 0
        | some r => r.capability }

/-- The MODULE evaluation reads the trip latch and clears it (R157). -/
def ModuleLink.clearTrip (l : ModuleLink) : ModuleLink := { l with tripLatch := false }

end Sys2Proof.Machine
end

