-- ==== Sys2Proof/Machine/Peers.lean ====
section
/-! DEFINITION. The peer table: entries, age, purge and the window view (06). -/

namespace Sys2Proof.Machine

open Sys2Proof

/-- The table with an entry written wholesale under its id, the list kept by rising id (R96). -/
def writeEntry (e : PeerEntry) : List PeerEntry → List PeerEntry
  | [] => [e]
  | x :: xs =>
    if e.id < x.id then e :: x :: xs
    else if e.id = x.id then e :: xs
    else x :: writeEntry e xs

/-- The entry of an id, where PRESENT (R93). -/
def entryOf (entries : List PeerEntry) (i : Fin 8) : Option PeerEntry :=
  entries.find? fun e => decide (e.id = i)

/-- The age of an entry at close `k` (R99). -/
def ageAt (k : Num) (e : PeerEntry) : Nat := (k - e.stamp).toNat

/-- The entries after the purge of close `k` (R100). -/
def purge (k : Num) (entries : List PeerEntry) : List PeerEntry :=
  entries.filter fun e => decide (ageAt k e ≤ Config.purgeAge)

/-- The view record of an entry at close `k` with aging limit `aging` (R102). -/
def viewRecord (aging : Nat) (k : Num) (e : PeerEntry) : ViewRecord :=
  { id := e.id, state := e.state, headroom := e.headroom, e := e.e, d := e.d
    unusable := e.unusable, age := ageAt k e, fresh := decide (ageAt k e = 0)
    counted := decide (e.state = .active) && decide (ageAt k e ≤ aging) }

/-- The view copied from purged entries at close `k` (R102, R103). -/
def formView (aging : Nat) (k : Num) (entries : List PeerEntry) (ownCounted : Bool) : View :=
  { records := entries.map (viewRecord aging k), ownCounted }

/-- The conflict count after the build of a frame (R107). -/
def PeerTable.frameBuilt (t : PeerTable) : PeerTable := { t with conflict := t.conflict - 1 }

end Sys2Proof.Machine
end

