-- ==== Sys2Proof/Machine/ReferenceTable.lean ====
section
/-! DEFINITION. The reference table: 256 read-only codes of one sine (02, section 2.1). The codes of
the first quadrant are written out; the rest follow by the two identities of R18
(notes/assumptions/17.md). -/

namespace Sys2Proof.Machine

/-- T[0] to T[15] (R18). -/
def quarterSine0 : List Int :=
  [0, 205867, 411609, 617104, 822227, 1026855, 1230864, 1434132,
   1636536, 1837954, 2038265, 2237349, 2435084, 2631353, 2826037, 3019018]

/-- T[16] to T[31] (R18). -/
def quarterSine1 : List Int :=
  [3210181, 3399411, 3586592, 3771613, 3954362, 4134730, 4312606, 4487885,
   4660461, 4830229, 4997088, 5160937, 5321677, 5479211, 5633445, 5784285]

/-- T[32] to T[47] (R18). -/
def quarterSine2 : List Int :=
  [5931642, 6075425, 6215549, 6351928, 6484482, 6613129, 6737793, 6858399,
   6974873, 7087145, 7195149, 7298819, 7398092, 7492909, 7583212, 7668947]

/-- T[48] to T[64] (R18). -/
def quarterSine3 : List Int :=
  [7750063, 7826511, 7898244, 7965220, 8027397, 8084740, 8137212, 8184783,
   8227423, 8265108, 8297814, 8325522, 8348215, 8365879, 8378504, 8386082,
   8388607]

/-- T[k] for `k` in 0..64. -/
def quarterSine (k : Nat) : Int :=
  (quarterSine0 ++ quarterSine1 ++ quarterSine2 ++ quarterSine3).getD k 0

/-- T[k] for `k` in 0..128, by T[64 + j] = T[64 - j]. -/
def halfSine (k : Nat) : Int := if k ≤ 64 then quarterSine k else quarterSine (128 - k)

/-- T[k], the reference table at index `k` modulo 256, by T[256 - k] = -T[k] (R18). -/
def sine (k : Nat) : Int :=
  if k % 256 ≤ 128 then halfSine (k % 256) else -halfSine (256 - k % 256)

/-- The cosine at table index `k`: T[(k + 64) mod 256] (R19). -/
def cosine (k : Nat) : Int := sine (k + 64)

/-- The table index of a scan: four times its cycle index (R4). -/
def tableIndex (index : BitVec 6) : Nat := 4 * index.toNat

end Sys2Proof.Machine
end

