-- ==== Sys2Proof/Machine/Phasor.lean ====
section
/-! DEFINITION. The compensation engine's phasor arithmetic: extraction, symmetrical components, the
demand and delivered triples and the usable mark (03). -/

namespace Sys2Proof.Machine

open Sys2Proof

/-- A phasor, and whether a reduction that formed it saturated. -/
structure Phasor where
  re : Frac
  im : Frac
  sat : Bool
  deriving DecidableEq, Repr

/-- The phasor of two reduced parts. -/
def phasorOf (re im : Reduced) : Phasor := ⟨re.val, im.val, re.sat || im.sat⟩

/-- The exact sine sum of a channel over the records (R49). -/
def sineSum (records : List ScanRecord) (channel : ScanRecord → Code) : Int :=
  (records.map fun r => codeFraction (channel r) * sine (tableIndex r.index)).sum

/-- The exact cosine sum of a channel over the records (R49). -/
def cosineSum (records : List ScanRecord) (channel : ScanRecord → Code) : Int :=
  (records.map fun r => codeFraction (channel r) * cosine (tableIndex r.index)).sum

/-- The phasor of a channel: each sum divided by 32 and reduced once, which moves the rounding point
five bits up (R42, R49). R50 says that any fundamental of amplitude 1.0 or more saturates, while by R43 and
R49 only a part of the phasor past full scale does: DEDUCED, the sums are reduced as R49 writes them
(notes/assumptions/24.md). -/
def extract (records : List ScanRecord) (channel : ScanRecord → Code) : Phasor :=
  phasorOf (reduceAt 28 (sineSum records channel)) (reduceAt 28 (cosineSum records channel))

/-- The three phasors of a three-phase set. -/
def extractSet (records : List ScanRecord) (pick : ScanRecord → Phases Code) : Phases Phasor :=
  ⟨extract records fun r => (pick r).a, extract records fun r => (pick r).b,
   extract records fun r => (pick r).c⟩

/-- K3·a − K6·b − K6·c + KS·(p − q), the shape of the four accumulators of R51. -/
def sequenceSum (a b c p q : Frac) : Int :=
  k3 * a.toInt - k6 * b.toInt - k6 * c.toInt + ks * p.toInt - ks * q.toInt

/-- The positive-sequence component X1 (R51). -/
def positiveSequence (x : Phases Phasor) : Phasor :=
  phasorOf (reduce (sequenceSum x.a.re x.b.re x.c.re x.c.im x.b.im))
    (reduce (sequenceSum x.a.im x.b.im x.c.im x.b.re x.c.re))

/-- The negative-sequence component X2 (R51). -/
def negativeSequence (x : Phases Phasor) : Phasor :=
  phasorOf (reduce (sequenceSum x.a.re x.b.re x.c.re x.b.im x.c.im))
    (reduce (sequenceSum x.a.im x.b.im x.c.im x.c.re x.b.re))

/-- Whether a reduction of an extraction of the set saturated. -/
def setSaturated (x : Phases Phasor) : Bool := x.a.sat || x.b.sat || x.c.sat

/-- What a run forms from its 64 records. -/
structure Measured where
  /-- V1 (R51). -/
  v1 : Phasor
  /-- Demand triple (R53). -/
  d : Triple
  /-- Delivered triple (R54). -/
  e : Triple
  /-- Saturation flag of the run: a saturation in the load chain (R55). -/
  saturated : Bool
  /-- Usable mark (R55). -/
  usable : Bool
  /-- Over-range summary (R9). -/
  overRange : Bool
  deriving DecidableEq, Repr

/-- The extraction, decomposition and triples of a run (R49 to R55, R9). -/
def measureWindow (records : List ScanRecord) : Measured :=
  let load := extractSet records fun r => r.codes.load
  let volt := extractSet records fun r => r.codes.volt
  let own := extractSet records fun r => r.codes.own
  let i1 := positiveSequence load
  let i2 := negativeSequence load
  let o1 := positiveSequence own
  let o2 := negativeSequence own
  let dq := negate i1.im
  let dre := negate i2.re
  let dim := negate i2.im
  let sat := setSaturated load || i1.sat || i2.sat || dq.sat || dre.sat || dim.sat
  { v1 := positiveSequence volt
    d := ⟨dq.val, dre.val, dim.val⟩
    e := ⟨o1.im, o2.re, o2.im⟩
    saturated := sat
    usable := !sat && checkSummary records
    overRange := overRangeSummary records }

end Sys2Proof.Machine
end

