-- ==== Sys2Proof/Machine/PlanRing.lean ====
section
/-! DEFINITION. The plan ring and the reference streamer: writes, boundaries, immediate stops,
synthesis and output conversion (08). -/

namespace Sys2Proof.Machine

open Sys2Proof

/-! ## Slots -/

/-- The slot at a position. -/
def PlanRing.slot (r : PlanRing) (i : Fin 4) : Slot :=
  match i with
  | 0 => r.slot0
  | 1 => r.slot1
  | 2 => r.slot2
  | 3 => r.slot3

/-- The ring with one slot replaced. -/
def PlanRing.setSlot (r : PlanRing) (i : Fin 4) (x : Slot) : PlanRing :=
  match i with
  | 0 => { r with slot0 := x }
  | 1 => { r with slot1 := x }
  | 2 => { r with slot2 := x }
  | 3 => { r with slot3 := x }

/-- The ring with a function applied to each slot. -/
def PlanRing.mapSlots (r : PlanRing) (f : Slot → Slot) : PlanRing :=
  { r with slot0 := f r.slot0, slot1 := f r.slot1, slot2 := f r.slot2, slot3 := f r.slot3 }

/-- The record of a slot that is PENDING for an interval. -/
def Slot.pendingFor (target : Num) : Slot → Option Plan
  | .empty => none
  | .pending p => if p.target = target then some p else none
  | .playing _ => none

/-- The PENDING slot whose target is the interval beginning, with its position (R136). -/
def PlanRing.find (r : PlanRing) (target : Num) : Option (Fin 4 × Plan) :=
  match r.slot0.pendingFor target with
  | some p => some (0, p)
  | none =>
    match r.slot1.pendingFor target with
    | some p => some (1, p)
    | none =>
      match r.slot2.pendingFor target with
      | some p => some (2, p)
      | none =>
        match r.slot3.pendingFor target with
        | some p => some (3, p)
        | none => none

/-- A PLAYING slot becomes EMPTY (R137). -/
def Slot.endPlay : Slot → Slot
  | .empty => .empty
  | .pending p => .pending p
  | .playing _ => .empty

/-- The PLAYING slot becomes EMPTY (R137). -/
def PlanRing.rest (r : PlanRing) : PlanRing := r.mapSlots Slot.endPlay

/-- A promoted slot becomes PLAYING; the slot that was PLAYING becomes EMPTY (R137). -/
def PlanRing.promote (r : PlanRing) (i : Fin 4) (p : Plan) : PlanRing :=
  r.rest.setSlot i (.playing p)

/-- A discarded slot becomes EMPTY (R137). -/
def PlanRing.discard (r : PlanRing) (i : Fin 4) : PlanRing := r.setSlot i .empty

/-- An immediate stop empties every PENDING slot and the PLAYING slot; the write index and the
latest-write record stand (R139). -/
def PlanRing.clear (r : PlanRing) : PlanRing := r.mapSlots fun _ => .empty

/-- A write: the slot after the write index becomes PENDING, and the latest-write record takes the
triple (R134). -/
def PlanRing.write (r : PlanRing) (target : Num) (mode : PlanMode) (t : Triple) : PlanRing :=
  { r.setSlot (r.writeIndex + 1) (.pending ⟨target, mode, t⟩) with
    writeIndex := r.writeIndex + 1
    latest := some t }

/-! ## The streamer at a boundary and at a stop -/

/-- A boundary that finds a NORMAL slot (R136). -/
def Play.onNormal (t : Triple) : Play → Play
  | .idle => .ramping t
  | .ramping _ => .playing t
  | .playing _ => .playing t
  | .holding _ => .playing t
  | .fading _ => .ramping t

/-- A boundary that finds a FADE slot (R136). -/
def Play.onFade (t : Triple) : Play → Play
  | .idle => .idle
  | .ramping _ => .fading t
  | .playing _ => .fading t
  | .holding _ => .fading t
  | .fading _ => .idle

/-- A boundary that finds no slot (R136, R138). -/
def Play.onNone : Play → Play
  | .idle => .idle
  | .ramping t => .holding t
  | .playing t => .holding t
  | .holding t => .fading t
  | .fading _ => .idle

/-- Whether the module carries current in a way a FADE slot fades or a missing slot is bridged:
RAMPING, PLAYING or HOLDING (R136). -/
def Play.carrying : Play → Bool
  | .idle => false
  | .ramping _ => true
  | .playing _ => true
  | .holding _ => true
  | .fading _ => false

/-- Whether a missing slot counts as an underrun: RAMPING or PLAYING (R138). -/
def Play.underrunsNext : Play → Bool
  | .idle => false
  | .ramping _ => true
  | .playing _ => true
  | .holding _ => false
  | .fading _ => false

/-- The ring and the streamer after the boundary that begins interval `target` (R136 to R138). -/
def boundary (target : Num) (r : PlanRing) (s : Streamer) : PlanRing × Streamer :=
  match r.find target with
  | some (i, p) =>
    match p.mode with
    | .normal => (r.promote i p, { s with play := s.play.onNormal p.triple })
    | .fade =>
      (if s.play.carrying then r.promote i p else r.rest.discard i,
       { s with play := s.play.onFade p.triple })
  | none =>
    (if s.play.carrying then r else r.rest,
     { play := s.play.onNone
       underruns := if s.play.underrunsNext then bump 255 s.underruns else s.underruns })

/-! ## Synthesis -/

/-- The factor of a state at scan position `m` = 1..32; `none` stands for unscaled (R135, R142). -/
def playFactor (p : Play) (m : Nat) : Option Nat :=
  match p with
  | .idle => none
  | .ramping _ => if m = 32 then none else some (2048 * m)
  | .playing _ => none
  | .holding _ => none
  | .fading _ => some (2048 * (32 - m))

/-- The source triple, absent in IDLE (R135). -/
def Play.source : Play → Option Triple
  | .idle => none
  | .ramping t => some t
  | .playing t => some t
  | .holding t => some t
  | .fading t => some t

/-- A triple scaled by a factor, or unscaled (R141). -/
def applyFactor (t : Triple) : Option Nat → Triple
  | none => t
  | some k => scaleTriple t k

/-- S_m, S_p, C_m and C_p of a table index (R143). -/
def sineMinus (i : Nat) : Frac := (reduce (-kh * sine i - kr * cosine i)).val

/-- C_m (R143). -/
def cosineMinus (i : Nat) : Frac := (reduce (-kh * cosine i + kr * sine i)).val

/-- S_p (R143). -/
def sinePlus (i : Nat) : Frac := (reduce (-kh * sine i + kr * cosine i)).val

/-- C_p (R143). -/
def cosinePlus (i : Nat) : Frac := (reduce (-kh * cosine i - kr * sine i)).val

/-- Phase sample a: one accumulator of three products, reduced once (R144). -/
def phaseSample (t : Triple) (p s c : Int) : Frac :=
  (reduce (t.q.toInt * p + t.re.toInt * s + t.im.toInt * c)).val

/-- The three phase samples of a scan's triple at table index `i` (R144). -/
def phaseSamples (t : Triple) (i : Nat) : Phases Frac :=
  ⟨phaseSample t (cosine i) (sine i) (cosine i),
   phaseSample t (cosineMinus i).toInt (sinePlus i).toInt (cosinePlus i).toInt,
   phaseSample t (cosinePlus i).toInt (sineMinus i).toInt (cosineMinus i).toInt⟩

/-- The output value of a sample: divided by 256, halves to even, saturated to 16 bits (R145). -/
def outputValue (x : Frac) : Code :=
  BitVec.ofInt 16 (clamp (-32768) 32767 (roundHalfEven x.toInt 8))

/-- The three output values of the scan of a cycle index: zero in IDLE, otherwise synthesized from the
source triple and the factor at scan position m (R141, R146). -/
def outputValues (p : Play) (index : BitVec 6) : Phases Code :=
  match p.source with
  | none => ⟨0, 0, 0⟩
  | some t =>
    (phaseSamples (applyFactor t (playFactor p (index.toNat % 32 + 1))) (tableIndex index)).map
      outputValue

end Sys2Proof.Machine
end

