-- ==== Sys2Proof/Machine/Correction.lean ====
section
/-! DEFINITION. The close history, the cross-check, the shortfall, the correction integrator and the
group command (04). -/

namespace Sys2Proof.Machine

open Sys2Proof

/-! ## Close history -/

/-- The history with a record pushed; the oldest of four falls out (R57). -/
def pushRecord (h : List CloseRecord) (r : CloseRecord) : List CloseRecord :=
  (r :: h).take Config.historyDepth

/-- Record `n` of the history, where present (R58). -/
def findRecord (h : List CloseRecord) (n : Num) : Option CloseRecord :=
  h.find? fun r => decide (r.number = n)

/-! ## Cross-check -/

/-- The fresh ACTIVE peers of a view (R60). -/
def freshActive (v : View) : List ViewRecord :=
  v.records.filter fun r => r.fresh && decide (r.state = .active)

/-- The distance of two demand triples (R61). -/
def distance (own peer : Triple) : Nat :=
  (peer.q.toInt - own.q.toInt).natAbs
    + mnorm (peer.re.toInt - own.re.toInt) (peer.im.toInt - own.im.toInt)

/-- Whether a peer disagrees (R61). -/
def disagrees (tx : Nat) (own : Triple) (r : ViewRecord) : Bool := decide (tx < distance own r.d)

/-- The outcome of a run's cross-check (R62). -/
inductive Verdict where
  | notJudged
  | outvoted
  | agreed
  deriving DecidableEq, Repr

/-- The tests of R62, in order, for run `k` on the history and the view of its close. -/
def judge (tx : Nat) (k : Num) (h : List CloseRecord) (v : View) : Verdict :=
  match findRecord h (k - 1) with
  | none => .notJudged
  | some own =>
    if !own.usable then .notJudged
    else if v.records.any (fun r => r.fresh && r.unusable) then .notJudged
    else if (freshActive v).length < 2 then .notJudged
    else if (freshActive v).length < 2 * ((freshActive v).filter (disagrees tx own.d)).length then
      .outvoted
    else .agreed

/-- The streaks and the XCHECK flag after a run's outcome (R63). -/
def CrossCheck.update (x : CrossCheck) : Verdict → CrossCheck
  | .notJudged => x
  | .outvoted =>
    let n := bump 8 x.outvoted
    { outvoted := n, agreement := 0, flag := if n = 8 then true else x.flag }
  | .agreed =>
    let n := bump 8 x.agreement
    { outvoted := 0, agreement := n, flag := if n = 8 then false else x.flag }

/-! ## Shortfall and correction -/

/-- One part of the shortfall: D(k−3) less the own E(k−1) and the E of each peer, saturated once. The
terms are codes, so the reduction of R66 has nothing to round. -/
def shortfallPart (d e : Frac) (peers : List Frac) : Frac :=
  satFrac (d.toInt - e.toInt - (peers.map BitVec.toInt).sum)

/-- The shortfall S (R66): `peers` are the fresh counted records of the view. -/
def shortfall (d e : Triple) (peers : List ViewRecord) : Triple :=
  ⟨shortfallPart d.q e.q (peers.map fun r => r.e.q),
   shortfallPart d.re e.re (peers.map fun r => r.e.re),
   shortfallPart d.im e.im (peers.map fun r => r.e.im)⟩

/-- The counted records of a view (R67, R76). -/
def countedRecords (v : View) : List ViewRecord := v.records.filter fun r => r.counted

/-- The step of one part: S / 2^n truncated toward zero, n = 5 − gain code; code 0 gives 0 (R70). -/
def correctionStep (gain : Nat) (s : Frac) : Int :=
  if gain = 0 then 0 else s.toInt.tdiv ((2 ^ (5 - gain) : Nat) : Int)

/-- One new part of C (R70). -/
def correctPart (v : Setup) (c s : Frac) : Frac :=
  BitVec.ofInt 24 (clamp (-v.cmax) v.cmax (c.toInt + correctionStep v.gain s))

/-- The new triple of an unfrozen run (R70). -/
def correctTriple (v : Setup) (c s : Triple) : Triple :=
  ⟨correctPart v c.q s.q, correctPart v c.re s.re, correctPart v c.im s.im⟩

/-- Whether a record is missing or marked unusable (R68). -/
def unfitRecord : Option CloseRecord → Bool
  | none => true
  | some r => !r.usable

/-- The freeze decision of run `k` (R68): `lock` is the lock state after its own update, `h` the
history at its close, `w` the view of its close. -/
def correctionFrozen (k : Num) (lock : Lock) (h : List CloseRecord) (w : View) (c : Correction) :
    Bool :=
  !w.ownCounted
    || (countedRecords w).any (fun r => !r.fresh)
    || unfitRecord (findRecord h (k - 3)) || unfitRecord (findRecord h (k - 1))
    || decide (lock = .coasting)
    || decide (c.settling < 3)

/-- C(k) of run `k` (R68, R70). -/
def nextCorrection (v : Setup) (k : Num) (lock : Lock) (h : List CloseRecord) (w : View)
    (c : Correction) : Triple :=
  if correctionFrozen k lock h w c then c.c
  else
    match findRecord h (k - 3), findRecord h (k - 1) with
    | some r3, some r1 => correctTriple v c.c (shortfall r3.d r1.e (countedRecords w))
    | _, _ => c.c

/-- The integrator after step 4 of run `k`: C(k), and the settling count raised where the own counted
status is set (R68 to R70). -/
def Correction.update (c : Correction) (v : Setup) (k : Num) (lock : Lock) (h : List CloseRecord)
    (w : View) : Correction :=
  { c := nextCorrection v k lock h w c
    settling := if w.ownCounted then bump 3 c.settling else c.settling }

/-- The group command G (R73). -/
def groupCommand (d c : Triple) : Triple := ⟨satAdd d.q c.q, satAdd d.re c.re, satAdd d.im c.im⟩

end Sys2Proof.Machine
end

