-- ==== Sys2Proof/Machine/Share.lean ====
section
/-! DEFINITION. Sharing the demand: the share factor, the raw reference, the limit and the headroom
code (05). -/

namespace Sys2Proof.Machine

open Sys2Proof

/-- The headroom sum H_tot (R77). -/
def headroomSum (w : View) (told : BitVec 16) : Nat :=
  ((countedRecords w).map fun r => r.headroom.toNat).sum + if w.ownCounted then told.toNat else 0

/-- The share factor q (R78). -/
def shareFactor (w : View) (told : BitVec 16) : Nat :=
  if w.ownCounted && decide (told ≠ 0#16) then divide16 told.toNat (headroomSum w told) else 0

/-- The raw reference R of a group command (R79). -/
def rawReference (g : Triple) (q : Nat) : Triple := scaleTriple g q

/-- The limit L of a capability (R80). -/
def ownLimit (imax : Nat) (cap : Byte) : Nat := imax * cap.toNat / 256

/-- The limited triple and the clipped mark of a raw reference (R81). -/
def limitTriple (r : Triple) (l : Nat) : Triple × Bool :=
  if measure r ≤ l then (r, false)
  else if l = 0 then (Triple.zero, true)
  else (scaleTriple r (divide16 l (measure r)), true)

/-- The share stage of a run: the limited triple where the window is usable, and the clipped mark
(R79, R81, R83). -/
def shareStage (usable : Bool) (d c : Triple) (q l : Nat) : Option Triple × Bool :=
  if usable then
    let t := limitTriple (rawReference (groupCommand d c) q) l
    (some t.1, t.2)
  else (none, false)

end Sys2Proof.Machine
end

