-- ==== Sys2Proof/Machine/Store.lean ====
section
/-! DEFINITION. The acquisition unit and the sample store (01): scans, streaks, scan records, and the
rotation of the three banks. -/

namespace Sys2Proof.Machine

open Sys2Proof

/-! ## The acquisition unit -/

/-- The interval number: the close number plus one (R11). -/
def Acquisition.interval (a : Acquisition) : Num := a.closeNumber + 1

/-- The interval position of a cycle index (R4). -/
def intervalPosition (index : BitVec 6) : Nat := index.toNat % 32

/-- The timer starts with period `p` (R2). The other values stand as the reset left them (R17). -/
def Acquisition.start (a : Acquisition) (p : Nat) : Acquisition :=
  { a with running := true, load := p }

/-- The timer stops, and a scan in progress is abandoned (R2). -/
def Acquisition.stop (a : Acquisition) : Acquisition := { a with running := false, scan := none }

/-- An expiry: the timer reloads with `p`, and a scan starts on the captured inputs (R1, R3, R4). -/
def Acquisition.expire (a : Acquisition) (p : Nat) (codes : Channels Code) : Acquisition :=
  { a with load := p, scan := some ⟨a.next, codes⟩, next := a.next + 1 }

/-- Whether an expiry of the timer can fall: it runs, and no scan is in progress (R1, R3). -/
def Acquisition.atExpiry (a : Acquisition) : Bool := a.running && a.scan.isNone

/-- The streaks and the front-end fault flag after a check (R8). -/
def Acquisition.checked (a : Acquisition) (pass : Bool) : Acquisition :=
  if pass then
    let n := bump 64 a.passStreak
    { a with failStreak := 0, passStreak := n, faulty := if n = 64 then false else a.faulty }
  else
    let n := bump 3 a.failStreak
    { a with passStreak := 0, failStreak := n, faulty := if n = 3 then true else a.faulty }

/-- The end of a scan for the acquisition unit: the check result is taken, and at interval position
31 the close number is raised (R8, R10). -/
def Acquisition.complete (a : Acquisition) (sc : Scan) (check : Code) : Acquisition :=
  let a := { a.checked (checkPasses sc.index check) with scan := none }
  if intervalPosition sc.index = 31 then { a with closeNumber := a.closeNumber + 1 } else a

/-- The record of a scan (R5). -/
def scanRecord (sc : Scan) (check : Code) : ScanRecord :=
  { index := sc.index, codes := sc.codes, pass := checkPasses sc.index check
    overRange := sc.codes.map overRangeFlag }

/-! ## The sample store -/

/-- The bank of a name. -/
def SampleStore.get (s : SampleStore) : BankId → Bank
  | .a => s.a
  | .b => s.b
  | .c => s.c

/-- The store with one bank replaced. -/
def SampleStore.set (s : SampleStore) (i : BankId) (b : Bank) : SampleStore :=
  match i with
  | .a => { s with a := b }
  | .b => { s with b := b }
  | .c => { s with c := b }

/-- The first of A, B, C whose state satisfies `p`. -/
def SampleStore.first (s : SampleStore) (p : BankState → Bool) : Option BankId :=
  if p s.a.state then some .a
  else if p s.b.state then some .b
  else if p s.c.state then some .c
  else none

/-- Whether a state is FREE. -/
def BankState.isFree : BankState → Bool
  | .free => true
  | .filling => false
  | .ready _ => false

/-- Whether a state is FILLING. -/
def BankState.isFilling : BankState → Bool
  | .free => false
  | .filling => true
  | .ready _ => false

/-- Whether a state is READY. -/
def BankState.isReady : BankState → Bool
  | .free => false
  | .filling => false
  | .ready _ => true

/-- A record written at the fill count, over what a previous use left there (R12, R13). -/
def Bank.write (b : Bank) (r : ScanRecord) : Bank :=
  { b with
    fill := b.fill + 1
    records := b.records.take b.fill ++ r :: b.records.drop (b.fill + 1) }

/-- The record of a scan goes into the FILLING bank (R13). -/
def SampleStore.write (s : SampleStore) (r : ScanRecord) : SampleStore :=
  match s.first BankState.isFilling with
  | none => s
  | some i => s.set i ((s.get i).write r)

/-- A bank begins FILLING with fill count 0 (R12). -/
def Bank.beginFill (b : Bank) : Bank := { b with state := .filling, fill := 0 }

/-- LISTEN entry: bank A becomes FILLING, B and C are FREE (R13). -/
def SampleStore.start (s : SampleStore) : SampleStore :=
  { a := s.a.beginFill, b := { s.b with state := .free }, c := { s.c with state := .free } }

/-- Step 1 of a close: the FILLING bank becomes READY with the close's number (R14). -/
def SampleStore.makeReady (s : SampleStore) (k : Num) : SampleStore :=
  match s.first BankState.isFilling with
  | none => s
  | some i => s.set i { s.get i with state := .ready k }

/-- Step 2 of a close: the first FREE bank becomes FILLING (R14). -/
def SampleStore.nextFill (s : SampleStore) : SampleStore :=
  match s.first BankState.isFree with
  | none => s
  | some i => s.set i (s.get i).beginFill

/-- The store after close `k`, steps 1 and 2 (R14). -/
def SampleStore.rotate (s : SampleStore) (k : Num) : SampleStore := (s.makeReady k).nextFill

/-- Step 3 of a close: the older and the newer READY bank, where two are READY after it. Read from
the store before the close: its READY bank and its FILLING bank (R14). -/
def SampleStore.window (s : SampleStore) : Option (BankId × BankId) :=
  match s.first BankState.isReady, s.first BankState.isFilling with
  | some older, some newer => some (older, newer)
  | _, _ => none

/-- A run completion frees the older of the two banks it read (R15). -/
def SampleStore.release (s : SampleStore) (i : BankId) : SampleStore :=
  s.set i { s.get i with state := .free }

/-- The 64 records of a run: those of its two banks (R37). -/
def SampleStore.recordsOf (s : SampleStore) (r : Run) : List ScanRecord :=
  (s.get r.older).records.take Config.scansPerInterval
    ++ (s.get r.newer).records.take Config.scansPerInterval

end Sys2Proof.Machine
end

