-- ==== Sys2Proof/Machine/Synchronizer.lean ====
section
/-! DEFINITION. The synchronizer: the dip test, the phase error, trim and period, and the lock states
(02). -/

namespace Sys2Proof.Machine

open Sys2Proof

/-- P_nom in ticks (R24). -/
def nominalPeriod : Freq → Int
  | .hz50 => 7680
  | .hz60 => 6400

/-- F_lim in ticks (R23). -/
def trimLimit : Freq → Int
  | .hz50 => 160
  | .hz60 => 133

/-- The dip test: a voltage run has V1_re ≥ Vmin (R21). -/
def voltageRun (vmin : Nat) (re : Frac) : Bool := decide ((vmin : Int) ≤ re.toInt)

/-- The phase error ε of a voltage run (R22). -/
def phaseError (re im : Frac) : Int :=
  let m : Int := divide16 im.toInt.natAbs re.toInt.toNat
  if im.toInt < 0 then -m else m

/-- The new trim of a voltage run (R23). -/
def newTrim (f : Freq) (trim ε : Int) : Int :=
  clamp (-trimLimit f) (trimLimit f) (trim - ε.tdiv 1024)

/-- The phase term of a voltage run (R24). -/
def phaseTerm (ε : Int) : Int := clamp (-64) 64 (ε.tdiv 64)

/-- The scan period of a trim and a phase term (R24). -/
def periodOf (f : Freq) (trim term : Int) : Nat := (nominalPeriod f + trim - term).toNat

/-- The error a LOCKED entry may have: 1.15° (R27, R29). -/
def lockThreshold : Nat := 1311

/-- The error a LOCKED run may have: 4.57° (R28). -/
def slipThreshold : Nat := 5243

/-- The lock state and streaks after a voltage run with |ε| = `m` (R26 to R29). -/
def Synchronizer.onVoltage (s : Synchronizer) (m : Nat) : Synchronizer :=
  match s.lock with
  | .unlocked => { s with lock := .acquiring, lockStreak := 0 }
  | .acquiring =>
    if m ≤ lockThreshold then
      if s.lockStreak + 1 < 8 then { s with lockStreak := s.lockStreak + 1 }
      else { s with lock := .locked, lockStreak := 8, slipStreak := 0 }
    else { s with lockStreak := 0 }
  | .locked =>
    if m ≤ slipThreshold then { s with slipStreak := 0 }
    else if s.slipStreak + 1 < 2 then { s with slipStreak := s.slipStreak + 1 }
    else { s with lock := .acquiring, slipStreak := 2, lockStreak := 0 }
  | .coasting =>
    if m ≤ lockThreshold then { s with lock := .locked, slipStreak := 0, dipStreak := 0 }
    else { s with lock := .acquiring, lockStreak := 0, dipStreak := 0 }

/-- The lock state and streaks after a dip run (R26 to R29). -/
def Synchronizer.onDip (s : Synchronizer) : Synchronizer :=
  match s.lock with
  | .unlocked => s
  | .acquiring => { s with lock := .unlocked, lockStreak := 0 }
  | .locked => { s with lock := .coasting, dipStreak := 0, slipStreak := 0 }
  | .coasting =>
    if s.dipStreak + 1 < 8 then { s with dipStreak := s.dipStreak + 1 }
    else { s with lock := .unlocked, dipStreak := 8 }

/-- The update of a run from its V1 (R20 to R29). -/
def Synchronizer.update (s : Synchronizer) (v : Setup) (re im : Frac) : Synchronizer :=
  if voltageRun v.vmin re then
    let ε := phaseError re im
    let f := newTrim v.freq s.trim ε
    { s.onVoltage ε.natAbs with trim := f, period := periodOf v.freq f (phaseTerm ε) }
  else
    { s.onDip with period := periodOf v.freq s.trim 0 }

/-- SETUP exit: the trim is kept where the frequency code equals the trim frequency, and is 0
otherwise; P is formed anew (R33). -/
def Synchronizer.start (s : Synchronizer) (f : Freq) : Synchronizer :=
  let trim := if s.trimFreq = some f then s.trim else 0
  { s with trim, trimFreq := some f, period := periodOf f trim 0 }

/-- Reset-line assertion: F, the trim frequency and P stand, the rest takes its reset values (R32). -/
def Synchronizer.restart (s : Synchronizer) : Synchronizer :=
  { s with lock := .unlocked, lockStreak := 0, slipStreak := 0, dipStreak := 0 }

end Sys2Proof.Machine
end

