-- ==== Sys2Proof/Machine/Ops.lean ====
section
/-! DEFINITION. The shared operations that touch more than one block: immediate stop, FAULT entry,
SETUP and LISTEN entry, reset-line assertion, loss of supply, merge start, window close. -/

namespace Sys2Proof.Machine

open Sys2Proof

/-- The immediate stop: the streamer enters IDLE and every PENDING and PLAYING slot becomes EMPTY; the
write index, the latest-write record and the plan-underrun counter stand (R139). -/
def State.stopStreamer (s : State) : State :=
  { s with plan := s.plan.clear, streamer := { s.streamer with play := .idle } }

/-- FAULT entry (R172): the streamer, line controller, module link, sample timer and peer table stop
and C is zeroed (R71); everything else keeps its value. -/
def State.enterFault (s : State) : State :=
  { s.stopStreamer with
    station := { s.station with state := .fault }
    line := s.line.stop
    link := s.link.stop
    acq := s.acq.stop
    peers := { s.peers with work := .idle }
    corr := Correction.reset }

/-- SETUP entry: the select line is asserted and the read of the setup image begins, with the read
instruction and the address sent to the memory (R162, R163, R181). -/
def State.enterSetup (s : State) : State :=
  { s with
    station := { s.station with state := .setup }
    pins := { s.pins with spiSelect := true, spiSent := setupRequest } }

/-- LISTEN entry with the setup values `v`: they are taken into use, the synchronizer forms P, and the
sample timer, sample store, line controller and module link start (R165). -/
def State.enterListen (s : State) (v : Setup) : State :=
  { s with
    station := { s.station with state := .listen, listenCount := 0, setup := some v }
    sync := s.sync.start v.freq
    acq := s.acq.start (s.sync.start v.freq).period
    store := s.store.start
    line := s.line.start v.serial
    link := s.link.start }

/-- Reset-line assertion: every block takes its reset values, but for F, the trim frequency, P and the
random source; the power-on wait runs on (R161, R162). -/
def State.assertReset (s : State) : State :=
  { State.reset with
    pins :=
      { s.pins with resetN := false, resetAsserted := true, spiSelect := false, spiSent := [] }
    station := { Station.reset with waiting := s.station.waiting }
    sync := s.sync.restart
    line := s.line.restart
    pending := s.pending }

/-- Loss of supply-good: all work ends at once and the station is OFF (R160). What the registers hold
without supply is not stated: they take the values the next power-on gives them
(notes/assumptions/7.md). -/
def State.losePower (s : State) : State :=
  { State.reset with
    pins := { State.reset.pins with supplyGood := false }
    station := { Station.reset with waiting := false }
    pending := s.pending }

/-- The idle peer table starts the merge of the frame received first (R95). -/
def State.startMerge (s : State) : State :=
  match s.peers.work with
  | .idle =>
    match s.line.order with
    | [] => s
    | i :: _ => { s with peers := { s.peers with work := .merge i }, line := s.line.beginMerge i }
  | .merge _ | .copy _ => s

/-- The line controller's part of a close: a merge in hand is abandoned (R101). -/
def abandonWork (w : TableWork) (l : LineController) : LineController :=
  match w with
  | .idle => l
  | .merge i => l.abandonMerge i
  | .copy _ => l

/-- The engine's part of a close: run `k` starts where the sample store reports a cycle window (R14,
R35). -/
def startRun (e : Engine) (w : Option (BankId × BankId)) (k : Num) (told : BitVec 16) : Engine :=
  match w with
  | none => e
  | some (older, newer) => { run := some ⟨k, older, newer, told⟩, saturated := false }

/-- The peer table's part of close `k`: the purge, then the copy (R100 to R103). -/
def PeerTable.close (t : PeerTable) (aging : Nat) (k : Num) (ownCounted : Bool) : PeerTable :=
  { t with
    entries := purge k t.entries
    work := .copy (formView aging k (purge k t.entries) ownCounted) }

/-- The window close, from a state whose close number is already that of the close; each block acts on
state of its own (R10). -/
def State.windowClose (s : State) (v : Setup) (quench : Bool) : State :=
  { s with
    store := s.store.rotate s.acq.closeNumber
    engine := startRun s.engine s.store.window s.acq.closeNumber s.station.told
    peers := s.peers.close v.aging s.acq.closeNumber s.station.counted
    line := abandonWork s.peers.work s.line
    link := s.link.takeSnapshot
    station := { s.station with quench }
    plan := (boundary (s.acq.closeNumber + 1) s.plan s.streamer).1
    streamer := (boundary (s.acq.closeNumber + 1) s.plan s.streamer).2 }

/-- Whether the copy of a close is in hand. -/
def TableWork.copying : TableWork → Bool
  | .idle => false
  | .merge _ => false
  | .copy _ => true

/-- The outcome of a step of this model. -/
abbrev Result := Host.Outcome State Fault Refusal

end Sys2Proof.Machine
end

