-- ==== Sys2Proof/Machine/Power.lean ====
section
/-! DEFINITION. The commands of supply, reset line and setup (10). An event the part is not waiting for
changes nothing (notes/assumptions/3.md). -/

namespace Sys2Proof.Machine

open Sys2Proof

/-- POWER_ON (R160): every block takes its power-on values, the station is OFF and the power-on wait
begins. -/
def execPowerOn (s : State) : Result := .next { State.reset with pending := s.pending }

/-- LOSS_OF_SUPPLY_GOOD (R160). -/
def execLossOfSupplyGood (s : State) : Result := .next s.losePower

/-- The wait has ended with RESET_N at `high`: SETUP where it is high and not held by an assertion,
otherwise the station stays OFF (R162). -/
def State.endWait (s : State) (high : Bool) : State :=
  let s := { s with station := { s.station with waiting := false } }
  if s.pins.resetAsserted then s
  else if high then { s with pins := { s.pins with resetN := true } }.enterSetup
  else { s with pins := { s.pins with resetN := false } }

/-- END_OF_POWER_ON_WAIT (R162), where the wait runs. -/
def execEndOfPowerOnWait (high : Bool) (s : State) : Result :=
  .next (if s.station.waiting && decide (s.station.state = .off) then s.endWait high else s)

/-- RESET_LINE_ASSERTION (R161), in any station state of a part under supply. -/
def execResetLineAssertion (s : State) : Result :=
  .next (if s.pins.supplyGood then s.assertReset else s)

/-- The rise of RESET_N after an assertion: SETUP with the power-on wait ended (R162). -/
def State.releaseReset (s : State) : State :=
  let s := { s with pins := { s.pins with resetN := true, resetAsserted := false } }
  if s.station.waiting then s else s.enterSetup

/-- RESET_LINE_RELEASE (R162); without a prior assertion there is no release. -/
def execResetLineRelease (s : State) : Result :=
  .next
    (if s.pins.supplyGood && s.pins.resetAsserted && decide (s.station.state = .off) then
      s.releaseReset
    else s)

/-- RESET_N_RETURNS_HIGH (R162): the wait ended during a low spell shorter than 10 µs, which ends here;
the station enters SETUP. -/
def execResetNReturnsHigh (s : State) : Result :=
  .next
    (if s.pins.supplyGood && !s.pins.resetAsserted && !s.pins.resetN && !s.station.waiting
        && decide (s.station.state = .off) then
      { s with pins := { s.pins with resetN := true } }.enterSetup
    else s)

/-- The end of the read: the select line is deasserted, which ends the transaction; a good image takes the station to LISTEN, a bad
one to FAULT (R163 to R165, R172). -/
def State.finishRead (s : State) (image : Vector Byte 32) : State :=
  let s := { s with pins := { s.pins with spiSelect := false, spiSent := [] } }
  match readImage image with
  | some v => s.enterListen v
  | none => s.enterFault

/-- SETUP_READ_COMPLETION (R163), in SETUP. -/
def execSetupReadCompletion (image : Vector Byte 32) (s : State) : Result :=
  .next (if s.station.state = .setup then s.finishRead image else s)

end Sys2Proof.Machine
end

