-- ==== Sys2Proof/Machine/Receive.lean ====
section
/-! DEFINITION. The commands of the receive side (07, section 7.5) and of the peer table (06). -/

namespace Sys2Proof.Machine

open Sys2Proof

/-- The byte 0x9E after `preamble` bits of preamble, at a receiver that looks for a delimiter. The light
makes the line busy (R112), which fails a clear check being timed. After at least 16 bits it is a start
delimiter; after fewer it is not recognised: no bank is claimed and nothing counted, and the line is busy
until the light ends (R124, R178). -/
def LineController.delimiterByte (l : LineController) (preamble : Nat) : LineController :=
  if Config.preambleBits ≤ preamble then l.goBusy.delimiter else l.goBusy

/-- START_DELIMITER (R124, R178), at a receiver that looks for one. -/
def execStartDelimiter (s : State) (preamble : Nat := 32) : Result :=
  .next
    (if s.station.state.live && decide (s.line.rx = .hunting) then
      { s with line := s.line.delimiterByte preamble }
    else s)

/-- The length byte of a frame in bank `i`: any value but 33 fails the frame (R125). -/
def LineController.lengthChecked (l : LineController) (i : RxId) (len : Byte) : LineController :=
  if len = lengthByte then { l with rx := .body i } else l.failFrame i

/-- LENGTH_BYTE_CHECK (R125), at a receiver that waits for the length byte. -/
def execLengthByteCheck (len : Byte) (s : State) : Result :=
  .next
    (if s.station.state.live then
      match s.line.rx with
      | .length i => { s with line := s.line.lengthChecked i len }
      | .off | .hunting | .body _ | .waitIdle => s
    else s)

/-- FRAME_RECEPTION_COMPLETION (R125, R126), at a receiver that takes a body: the checks, the group
filter, and the start of a merge where the peer table has no work in hand (R95). -/
def execFrameReceptionCompletion (body : Vector Byte 33) (crc : BitVec 16) (s : State) : Result :=
  .next
    (match s.station.setup, s.line.rx with
     | some v, .body i =>
       if s.station.state.live then
         { s with line := s.line.received i v.group body crc s.acq.interval }.startMerge
       else s
     | _, _ => s)

/-- VIEW_COPY_COMPLETION (R101, R104): the new view replaces the old one, and the table takes the
waiting frame received first (R95). -/
def execViewCopyCompletion (s : State) : Result :=
  .next
    (match s.peers.work with
     | .copy w => { s with peers := { s.peers with view := w, work := .idle } }.startMerge
     | .idle => s
     | .merge _ => s)

/-- The end of the merge of a frame of another id: its entry is written wholesale, the bank is FREE, and
the next waiting frame is taken (R95, R96). -/
def State.mergeEntry (s : State) (i : RxId) (e : PeerEntry) : State :=
  { s with
    peers := { s.peers with entries := writeEntry e s.peers.entries, work := .idle }
    line := s.line.endMerge i }.startMerge

/-- The end of the merge of a frame with the own id: a lower or equal serial leads to FAULT, a higher one
sets the conflict count to 16 (R106, R107). -/
def State.mergeConflict (s : State) (i : RxId) (own frame : BitVec 32) : State :=
  let t : State :=
    { s with peers := { s.peers with work := .idle }, line := s.line.endMerge i }
  if frame ≤ own then t.enterFault
  else { t with peers := { t.peers with conflict := 16 } }.startMerge

/-- The end of the merge of frame `f` in bank `i` (R96, R106). A body that names no state never reaches
a bank (R125); its bank would only be handed back. -/
def State.finishMerge (s : State) (v : Setup) (i : RxId) (f : Received) : State :=
  if bodyId f.body = v.id then s.mergeConflict i v.serial (bodySerial f.body)
  else
    match frameEntry f with
    | some e => s.mergeEntry i e
    | none =>
      { s with peers := { s.peers with work := .idle }, line := s.line.endMerge i }.startMerge

/-- MERGE_COMPLETION (R96), where a merge is in hand. -/
def execMergeCompletion (s : State) : Result :=
  .next
    (match s.peers.work, s.station.setup with
     | .merge i, some v =>
       match s.line.bank i with
       | .merging f => s.finishMerge v i f
       | .free | .receiving | .full _ => s
     | _, _ => s)

end Sys2Proof.Machine
end

