-- ==== Sys2Proof/Machine/RunEnd.lean ====
section
/-! DEFINITION. The run completion: the seven ordered steps of R39, and the completion of a run after
FAULT entry (R173). -/

namespace Sys2Proof.Machine

open Sys2Proof

/-- What run `r` hands on, formed from its inputs as they stood at its close (R37) and, for the
evaluation, from the other blocks as they stand at the completion (R167). -/
structure Handover where
  measured : Measured
  /-- Step 1: the synchronizer after its update. -/
  sync : Synchronizer
  /-- Step 3: the cross-check after its outcome. -/
  xcheck : CrossCheck
  /-- The freeze decision and, from step 4, the integrator (R68 to R70). -/
  frozen : Bool
  corr : Correction
  /-- The share stage: L, the limited triple and the clipped mark. -/
  limit : Nat
  limited : Option Triple
  clipped : Bool
  /-- Step 5: the station controller after its evaluation. -/
  station : Station
  deriving DecidableEq, Repr

/-- The results of run `r` under the setup values `v` (R39). -/
def handover (v : Setup) (r : Run) (s : State) : Handover :=
  let m := measureWindow (s.store.recordsOf r)
  let sync := s.sync.update v m.v1.re m.v1.im
  let xcheck := s.xcheck.update (judge v.tx r.number s.history s.peers.view)
  let corr := s.corr.update v r.number sync.lock s.history s.peers.view
  let l := ownLimit v.imax s.link.snapshot
  let share := shareStage m.usable m.d corr.c (shareFactor s.peers.view r.told) l
  let causes := holdCauses sync.lock s.link s.acq.faulty s.station.quench xcheck.flag
  { measured := m
    sync
    xcheck
    frozen := correctionFrozen r.number sync.lock s.history s.peers.view s.corr
    corr
    limit := l
    limited := share.1
    clipped := share.2
    station := s.station.evaluate v sync.lock causes }

/-- The close record of run `r` (R57). -/
def closeRecord (r : Run) (m : Measured) : CloseRecord :=
  { number := r.number, d := m.d, e := m.e, usable := m.usable }

/-- The integrator after step 5: zero where the station entered or left ACTIVE (R71). -/
def settleCorrection (before after : StationState) (c : Correction) : Correction :=
  if decide (before = .active) = decide (after = .active) then c else Correction.reset

/-- The plan-slot write of step 6 (R87, R88). -/
def planWrite (before after : StationState) (counted : Bool) (k : Num) (limited : Option Triple)
    (r : PlanRing) : PlanRing :=
  if before = .active ∧ after ≠ .active then
    match r.latest with
    | none => r
    | some t => r.write (k + 2) .fade t
  else if after = .active ∧ counted = true then
    match limited with
    | none => r
    | some t => r.write (k + 2) .normal t
  else r

/-- The four status counters as they stand (R129). -/
def State.counters (s : State) : Counters :=
  { badFrames := s.line.badFrames, sendMissed := s.line.sendMissed
    underruns := s.streamer.underruns, overruns := s.line.rxOverruns }

/-- The fields of the share frame of a run (R176). -/
def frameFields (v : Setup) (s : State) (h : Handover) : FrameFields :=
  { group := v.group, id := v.id, adjusted := v.adjusted, serial := v.serial
    sequence := s.sequence
    state := h.station.state.announce
    causes := h.station.causes
    conflictSeen := decide (0 < s.peers.conflict)
    flags :=
      { clipped := h.clipped, unusable := !h.measured.usable, overRange := h.measured.overRange
        coasting := decide (h.sync.lock = .coasting), frozen := h.frozen }
    headroom := headroomCode h.limit
    e := h.measured.e
    d := h.measured.d
    counters := s.counters }

/-- The seven steps of R39 and the freeing of the older bank (R15), from what run `r` hands on. -/
def State.takeHandover (s : State) (v : Setup) (r : Run) (h : Handover) : State :=
  { s with
    sync := h.sync
    history := pushRecord s.history (closeRecord r h.measured)
    xcheck := h.xcheck
    corr := settleCorrection s.station.state h.station.state h.corr
    station := h.station
    link := s.link.clearTrip
    plan :=
      planWrite s.station.state h.station.state s.peers.view.ownCounted r.number h.limited s.plan
    line := s.line.fill (shareFrame (frameFields v s h))
    peers := s.peers.frameBuilt
    sequence := s.sequence + 1
    store := s.store.release r.older
    engine := { run := none, saturated := h.measured.saturated } }

/-- Run completion `k` in LISTEN, ACTIVE or HOLD (R39). -/
def State.completeRun (s : State) (v : Setup) (r : Run) : State :=
  s.takeHandover v r (handover v r s)

/-- Run completion `k` after FAULT entry: the close record and the cross-check streaks only (R173); the
banks keep their states (R17; notes/assumptions/12.md). R69 raises the settling count at a completion whose
view shows the own counted status set, and R71 and R173 say of this one only that no correction is formed:
DESIGN CHOICE, the count stays at the 0 of FAULT entry (notes/assumptions/22.md). -/
def State.completeRunInFault (s : State) (v : Setup) (r : Run) : State :=
  { s with
    history := pushRecord s.history (closeRecord r (measureWindow (s.store.recordsOf r)))
    xcheck := s.xcheck.update (judge v.tx r.number s.history s.peers.view)
    engine := { run := none, saturated := (measureWindow (s.store.recordsOf r)).saturated } }

/-- RUN_COMPLETION (R39), where a run is in flight. A completion while the copy of its close is in hand,
or with a frame still in the transmit slot, is an order the spec's timing excludes. -/
def execRunCompletion (s : State) : Result :=
  match s.engine.run, s.station.setup with
  | some r, some v =>
    if s.peers.work.copying then .fault .completionDuringCopy
    else if s.station.state.live then
      if s.line.slot.isSome then .fault .slotOccupied else .next (s.completeRun v r)
    else if s.station.state = .fault then .next (s.completeRunInFault v r)
    else .next s
  | _, _ => .next s

end Sys2Proof.Machine
end

