-- ==== Sys2Proof/Machine/Scan.lean ====
section
/-! DEFINITION. The commands of the sample timer and the scan (01, 08, 09). -/

namespace Sys2Proof.Machine

open Sys2Proof

/-- A sample-timer expiry while the timer runs: the timer reloads with P and a scan starts; the
streamer forms the sample of the scan and the module link sends its reference word; the silence test is
made, and where it declares silence the streamer stops after the sample (R1, R3, R141, R149, R153;
notes/assumptions/10.md). -/
def State.expire (s : State) (codes : Channels Code) : State :=
  let t : State :=
    { s with
      acq := s.acq.expire s.sync.period codes
      link := s.link.expire s.streamer.play (outputValues s.streamer.play s.acq.next) }
  if s.link.declares then t.stopStreamer else t

/-- SAMPLE_TIMER_EXPIRY (R1). -/
def execSampleTimerExpiry (codes : Channels Code) (s : State) : Result :=
  if s.acq.running then
    match s.acq.scan with
    | some _ => .fault .expiryDuringScan
    | none => .next (s.expire codes)
  else .next s

/-- The scan's part of a scan completion: record, streaks, and at interval position 31 the close number
(R5, R8, R10, R13). -/
def State.recordScan (s : State) (sc : Scan) (check : Code) : State :=
  { s with acq := s.acq.complete sc check, store := s.store.write (scanRecord sc check) }

/-- The blocks' part of a scan completion: the send deadline at interval position 19, the window close
at 31 (R4, R10, R121). -/
def State.afterScan (s : State) (v : Setup) (index : BitVec 6) (quench : Bool) : State :=
  if intervalPosition index = 19 then { s with line := s.line.deadline }
  else if intervalPosition index = 31 then s.windowClose v quench
  else s

/-- SCAN_COMPLETION (R5), where a scan is in progress. A close while a run is in flight or a copy in
hand is an order the spec's timing excludes. -/
def execScanCompletion (check : Code) (quench : Bool) (s : State) : Result :=
  match s.acq.scan, s.station.setup with
  | some sc, some v =>
    if intervalPosition sc.index = 31 && s.engine.run.isSome then .fault .closeDuringRun
    else if intervalPosition sc.index = 31 && s.peers.work.copying then .fault .closeDuringCopy
    else .next ((s.recordScan sc check).afterScan v sc.index quench)
  | _, _ => .next s

end Sys2Proof.Machine
end

