-- ==== Sys2Proof/Machine/Status.lean ====
section
/-! DEFINITION. The commands of the module link (09). -/

namespace Sys2Proof.Machine

open Sys2Proof

/-- A good status word: the record, the silence counter, the lost flag and the trip latch; a trip stops
the streamer (R152 to R155). -/
def State.takeStatus (s : State) (word : BitVec 24) : State :=
  let t : State := { s with link := s.link.takeStatus word }
  if statusTripped word then t.stopStreamer else t

/-- STATUS_ARRIVAL (R152), while the link runs; a word that is not good is ignored. -/
def execStatusArrival (bits : Nat) (word : BitVec 24) (s : State) : Result :=
  .next
    (if s.link.takes bits word then s.takeStatus word else s)

/-- MODULE_LINK_SILENCE (R153): the declaration made at the expiry at which the counter reaches 64, taken
before the expiry's own step (R140). The timer has expired: the scan before has ended and no status word
of its scan period can be taken any more. The counter stands at 64, the lost flag is set and the streamer
stops, so that the word of the expiry, which comes next, is IDLE. During a scan no expiry falls, and nothing
is declared; after an expiry that declared silence the declaration stands (notes/assumptions/10.md). -/
def execModuleLinkSilence (s : State) : Result :=
  .next
    (if s.link.running && s.acq.atExpiry && s.link.declares then
      { s with link := s.link.declareLost }.stopStreamer
    else s)

end Sys2Proof.Machine
end

