-- ==== Sys2Proof/Machine/Transmit.lean ====
section
/-! DEFINITION. The commands of carrier sense, contention and sending (07, sections 7.1 to 7.4). The
line controller runs in LISTEN, ACTIVE and HOLD only (R113). -/

namespace Sys2Proof.Machine

open Sys2Proof

/-- BACKOFF_EXPIRY (R115), in BACKOFF. -/
def execBackoffExpiry (s : State) : Result :=
  .next
    (if s.station.state.live && decide (s.line.contention = .backoff) then
      { s with line := { s.line with contention := .check } }
    else s)

/-- CLEAR_CHECK_PASS (R116), in CHECK with the line idle: SENDING; the receiver is turned off (R123) and
the line is busy with the station's own light (R112). -/
def execClearCheckPass (s : State) : Result :=
  .next
    (if s.station.state.live && decide (s.line.contention = .check) && !s.line.busy then
      { s with line := { s.line with contention := .sending, rx := .off, busy := true } }
    else s)

/-- LINE_BUSY (R112, R117). -/
def execLineBusy (s : State) : Result :=
  .next (if s.station.state.live then { s with line := s.line.goBusy } else s)

/-- LINE_IDLE (R112, R123, R125). -/
def execLineIdle (s : State) : Result :=
  .next (if s.station.state.live then { s with line := s.line.goIdle } else s)

/-- COLLISION (R120), in SENDING. -/
def execCollision (s : State) : Result :=
  .next
    (if s.station.state.live && decide (s.line.contention = .sending) then
      { s with line := s.line.collide }
    else s)

/-- A clean transmission completion of frame `f`: the slot empties, QUIET, and the station controller
takes H_told and the announced flag (R122, R171). -/
def State.transmitted (s : State) (f : SlotFrame) : State :=
  { s with
    line := { s.line with slot := none, contention := .quiet }
    station := s.station.sent f }

/-- TRANSMISSION_COMPLETION (R122), in SENDING. -/
def execTransmissionCompletion (s : State) : Result :=
  .next
    (if s.station.state.live && decide (s.line.contention = .sending) then
      match s.line.slot with
      | some f => s.transmitted f
      | none => s
    else s)

end Sys2Proof.Machine
end

