-- ==== Sys2Proof/Machine/Dispatch.lean ====
section
/-! DEFINITION. One arm per command: the effect of a command on everything but the queue. -/

namespace Sys2Proof.Machine

open Sys2Proof

def exec (i : Instr) (s : State) : Host.Outcome State Fault Refusal :=
  match i with
  | .powerOn => Sys2Proof.Machine.execPowerOn s
  | .lossOfSupplyGood => Sys2Proof.Machine.execLossOfSupplyGood s
  | .endOfPowerOnWait high => Sys2Proof.Machine.execEndOfPowerOnWait high s
  | .resetLineAssertion => Sys2Proof.Machine.execResetLineAssertion s
  | .resetLineRelease => Sys2Proof.Machine.execResetLineRelease s
  | .setupReadCompletion image => Sys2Proof.Machine.execSetupReadCompletion image s
  | .sampleTimerExpiry codes => Sys2Proof.Machine.execSampleTimerExpiry codes s
  | .moduleLinkSilence => Sys2Proof.Machine.execModuleLinkSilence s
  | .scanCompletion check quench => Sys2Proof.Machine.execScanCompletion check quench s
  | .viewCopyCompletion => Sys2Proof.Machine.execViewCopyCompletion s
  | .runCompletion => Sys2Proof.Machine.execRunCompletion s
  | .backoffExpiry => Sys2Proof.Machine.execBackoffExpiry s
  | .clearCheckPass => Sys2Proof.Machine.execClearCheckPass s
  | .lineBusy => Sys2Proof.Machine.execLineBusy s
  | .lineIdle => Sys2Proof.Machine.execLineIdle s
  | .collision => Sys2Proof.Machine.execCollision s
  | .transmissionCompletion => Sys2Proof.Machine.execTransmissionCompletion s
  | .startDelimiter preamble => Sys2Proof.Machine.execStartDelimiter s preamble
  | .lengthByteCheck len => Sys2Proof.Machine.execLengthByteCheck len s
  | .frameReceptionCompletion body crc => Sys2Proof.Machine.execFrameReceptionCompletion body crc s
  | .mergeCompletion => Sys2Proof.Machine.execMergeCompletion s
  | .statusArrival bits word => Sys2Proof.Machine.execStatusArrival bits word s
  | .resetNReturnsHigh => Sys2Proof.Machine.execResetNReturnsHigh s

end Sys2Proof.Machine
end

