-- ==== Sys2Proof/Safety.lean ====
section
/-! DEFINITION. What the machine keeps: the invariants the statements speak of, each a predicate of one
state. -/

namespace Sys2Proof.Machine

open Sys2Proof

/-- Each status counter stays within 0..255 (R128, R138). -/
def CountersBounded (s : State) : Prop :=
  s.line.badFrames ≤ 255 ∧ s.line.sendMissed ≤ 255 ∧ s.line.rxOverruns ≤ 255
    ∧ s.streamer.underruns ≤ 255

/-- The laws of contention: the slot is empty exactly in QUIET; while it holds a frame at most four
attempts have failed and BE runs 2, 3, 4, 5, 5; a wait in BACKOFF is a draw of 1..2^BE − 1 units
(R114, R115, R117). -/
def ContentionSound (s : State) : Prop :=
  (s.line.slot = none ↔ s.line.contention = .quiet)
    ∧ (s.line.contention ≠ .quiet → s.line.nb ≤ 4 ∧ s.line.be = min 5 (2 + s.line.nb))
    ∧ (s.line.contention = .backoff → 0 < s.line.wait ∧ s.line.wait < 2 ^ s.line.be)

/-- The lost flag is set exactly while the silence counter stands at 64, and an expiry is due only after a
declaration that stands (R153, R154). -/
def SilenceSound (s : State) : Prop :=
  s.link.silence ≤ 64 ∧ (s.link.lost = true ↔ s.link.silence = 64)
    ∧ (s.link.expiryDue = true → s.link.lost = true)

/-- The trim, the scan period and the period the sample timer was last loaded with keep their bounds
(R25), the trim under the frequency code it was formed with (R33). -/
def SyncSound (s : State) : Prop :=
  (s.sync.trimFreq = none → s.sync.trim = 0)
    ∧ (∀ f, s.sync.trimFreq = some f → -trimLimit f ≤ s.sync.trim ∧ s.sync.trim ≤ trimLimit f)
    ∧ (s.station.state.live = true →
        ∃ v, s.station.setup = some v ∧ s.sync.trimFreq = some v.freq
          ∧ nominalPeriod v.freq - (trimLimit v.freq + 64) ≤ (s.sync.period : Int)
          ∧ (s.sync.period : Int) ≤ nominalPeriod v.freq + (trimLimit v.freq + 64)
          ∧ nominalPeriod v.freq - (trimLimit v.freq + 64) ≤ (s.acq.load : Int)
          ∧ (s.acq.load : Int) ≤ nominalPeriod v.freq + (trimLimit v.freq + 64))

/-- Whether a slot is PENDING. -/
def Slot.isPending : Slot → Bool
  | .empty => false
  | .pending _ => true
  | .playing _ => false

/-- Whether a slot of the ring is PENDING. -/
def PlanRing.hasPending (r : PlanRing) : Bool :=
  r.slot0.isPending || r.slot1.isPending || r.slot2.isPending || r.slot3.isPending

/-- What a slot at position `i` may hold: a PENDING slot stands at the write index and targets the
interval after the one in progress; the PLAYING slot stands there too, or just before it when a PENDING
slot does, and holds the streamer's source triple (R133, R134, R137). -/
def SlotSound (s : State) (i : Fin 4) : Slot → Prop
  | .empty => True
  | .pending p => i = s.plan.writeIndex ∧ p.target = s.acq.closeNumber + 2
  | .playing p =>
    (if s.plan.hasPending then i + 1 = s.plan.writeIndex else i = s.plan.writeIndex)
      ∧ s.streamer.play.source = some p.triple

/-- The law of the ring (R137): its slots are sound, none is PENDING while a run is in flight, the run
in flight is that of the latest close, and the streamer holds a source triple only from a PLAYING
slot. -/
def RingLaw (s : State) : Prop :=
  (∀ i, SlotSound s i (s.plan.slot i))
    ∧ (∀ r, s.engine.run = some r → r.number = s.acq.closeNumber ∧ s.plan.hasPending = false)
    ∧ (s.streamer.play.source ≠ none → ∃ i p, s.plan.slot i = .playing p)

/-- The own counted status of the view the run in flight will read. -/
def PeerTable.runCounted (t : PeerTable) : Bool :=
  match t.work with
  | .copy w => w.ownCounted
  | .idle | .merge _ => t.view.ownCounted

/-- A run in flight finds the station counted only where the station was ACTIVE at its close, and the
station does not leave ACTIVE before the run's completion but for FAULT or OFF (R74, R103). -/
def CountedOnlyActive (s : State) : Prop :=
  s.engine.run.isSome = true → s.station.state.live = true → s.peers.runCounted = true →
    s.station.state = .active

/-- A part of the correction lies within ±Cmax. -/
def PartWithin (m : Nat) (x : Frac) : Prop := -(m : Int) ≤ x.toInt ∧ x.toInt ≤ m

/-- The correction lies within ±Cmax and is zero whenever the station is not ACTIVE; the settling count
stays within 0..3 (R69, R71). -/
def CorrectionSound (s : State) : Prop :=
  (s.station.state ≠ .active → s.corr = Correction.reset)
    ∧ (∀ v, s.station.setup = some v →
        v.cmax ≤ 2097152 ∧ PartWithin v.cmax s.corr.c.q ∧ PartWithin v.cmax s.corr.c.re
          ∧ PartWithin v.cmax s.corr.c.im)
    ∧ s.corr.settling ≤ 3

/-- The values in use lie in the ranges of R164. -/
def SetupInRange (v : Setup) : Prop :=
  v.serial ≠ 0#32 ∧ v.serial ≠ 0xFFFFFFFF#32
    ∧ 32768 ≤ v.imax ∧ v.imax ≤ 4194304 ∧ 419430 ≤ v.vmin ∧ v.vmin ≤ 7549747 ∧ v.cmax ≤ 2097152
    ∧ 83886 ≤ v.tx ∧ v.tx ≤ 4194304 ∧ 1 ≤ v.aging ∧ v.aging ≤ 8 ∧ v.gain ≤ 3
    ∧ 8 ≤ v.listenPeriod ∧ v.listenPeriod ≤ 255 ∧ 4 ≤ v.reentryPeriod ∧ v.reentryPeriod ≤ 255

/-- Setup values, where present, are in range, and a station in LISTEN, ACTIVE or HOLD has them
(R164, R165). -/
def SetupSound (s : State) : Prop :=
  (∀ v, s.station.setup = some v → SetupInRange v)
    ∧ (s.station.state.live = true → s.station.setup.isSome = true)

/-- The measure |q| + M(re, im) of a triple is at most the largest limit an image allows, 4,177,920
(R80, R82). -/
def TripleBounded (t : Triple) : Prop :=
  t.q.toInt.natAbs + mnorm t.re.toInt t.im.toInt ≤ 4177920

/-- Every triple the ring or the streamer holds keeps that bound (R82, R88, R144). -/
def PlanBounded (s : State) : Prop :=
  (∀ i p, s.plan.slot i = .pending p ∨ s.plan.slot i = .playing p → TripleBounded p.triple)
    ∧ (∀ t, s.plan.latest = some t → TripleBounded t)
    ∧ (∀ t, s.streamer.play.source = some t → TripleBounded t)

/-- The values that power-on and a reset-line restart have in common: the tables of R17, R31 (but for
F, the trim frequency and P), R40, R59, R65, R71, R109, R130, R148, R158, R175 (but for the power-on
wait) and the frame sequence of R176. -/
def ResetValues (s : State) : Prop :=
  (s.station.state = .off ∧ s.station.causes = Causes.none ∧ s.station.quench = false
      ∧ s.station.listenCount = 0 ∧ s.station.reentryCount = 0 ∧ s.station.announced = false
      ∧ s.station.told = 0 ∧ s.station.setup = none)
    ∧ (s.acq.running = false ∧ s.acq.scan = none ∧ s.acq.next = 0 ∧ s.acq.closeNumber = 0
      ∧ s.acq.interval = 1 ∧ s.acq.failStreak = 0 ∧ s.acq.passStreak = 0 ∧ s.acq.faulty = false)
    ∧ (∀ i, (s.store.get i).state = .free ∧ (s.store.get i).fill = 0)
    ∧ (s.sync.lock = .unlocked ∧ s.sync.lockStreak = 0 ∧ s.sync.slipStreak = 0
      ∧ s.sync.dipStreak = 0)
    ∧ s.engine = ⟨none, false⟩ ∧ s.history = [] ∧ s.xcheck = ⟨0, 0, false⟩
    ∧ s.corr = ⟨⟨0, 0, 0⟩, 0⟩ ∧ s.peers = ⟨[], ⟨[], false⟩, 0, .idle⟩
    ∧ (s.line.contention = .quiet ∧ s.line.slot = none ∧ s.line.nb = 0 ∧ s.line.be = 2
      ∧ s.line.mark = false ∧ s.line.rx = .off ∧ s.line.bankA = .free ∧ s.line.bankB = .free
      ∧ s.line.lastClaimed = .b ∧ s.line.badFrames = 0 ∧ s.line.sendMissed = 0
      ∧ s.line.rxOverruns = 0)
    ∧ s.plan = ⟨.empty, .empty, .empty, .empty, 3, none⟩ ∧ s.streamer = ⟨.idle, 0⟩
    ∧ (s.link.running = false ∧ s.link.seq = 0 ∧ s.link.status = none ∧ s.link.silence = 0
      ∧ s.link.lost = false ∧ s.link.tripLatch = false ∧ s.link.snapshot = 0)
    ∧ s.sequence = 0 ∧ s.pins.spiSelect = false ∧ s.pins.spiSent = []

/-- Every slot of the ring is EMPTY. -/
def PlanRing.allEmpty (r : PlanRing) : Prop :=
  r.slot0 = .empty ∧ r.slot1 = .empty ∧ r.slot2 = .empty ∧ r.slot3 = .empty

/-- The timer, the module link and both sides of the line controller run in LISTEN, ACTIVE and HOLD and
are stopped in OFF, SETUP and FAULT (R2, R113, R131, R151, R160, R172). -/
def RunsOnlyLive (s : State) : Prop :=
  (s.station.state.live = true → s.acq.running = true ∧ s.link.running = true)
    ∧ (s.station.state.live = false →
        s.acq.running = false ∧ s.acq.scan = none ∧ s.link.running = false
          ∧ s.line.contention = .quiet ∧ s.line.slot = none ∧ s.line.rx = .off)

/-- In OFF, SETUP, LISTEN and FAULT the streamer is IDLE and the ring is empty (R147). -/
def IdleOutside (s : State) : Prop :=
  s.station.state ≠ .active → s.station.state ≠ .hold →
    s.streamer.play = .idle ∧ s.plan.allEmpty

/-- In OFF and SETUP every block stands at its reset values (R17, R40, R59, R65, R71, R109, R130, R148,
R158, R175, R176); the trim, the trim frequency, P and the random source are apart (R32, R118), and so
is the power-on wait. -/
def RestsInOff (s : State) : Prop :=
  s.station.state = .off ∨ s.station.state = .setup →
    s.station = { Station.reset with state := s.station.state, waiting := s.station.waiting }
      ∧ s.acq = Acquisition.reset ∧ s.store = SampleStore.reset ∧ s.engine = Engine.reset
      ∧ s.history = [] ∧ s.xcheck = CrossCheck.reset ∧ s.corr = Correction.reset
      ∧ s.peers = PeerTable.reset ∧ s.line = { LineController.reset with lfsr := s.line.lfsr }
      ∧ s.plan = PlanRing.reset ∧ s.streamer = Streamer.reset ∧ s.link = ModuleLink.reset
      ∧ s.sequence = 0
      ∧ s.sync.lock = .unlocked ∧ s.sync.lockStreak = 0 ∧ s.sync.slipStreak = 0
      ∧ s.sync.dipStreak = 0

/-- The peer table lists its entries by strictly rising id and holds none under the station's own id;
with no setup values it holds none at all (R93, R109). -/
def PeersSound (s : State) : Prop :=
  s.peers.entries.Pairwise (fun a b => a.id < b.id)
    ∧ (∀ v, s.station.setup = some v → ∀ e ∈ s.peers.entries, e.id ≠ v.id)
    ∧ (s.station.state = .off ∨ s.station.state = .setup → s.peers.entries = [])

/-- A frame in the slot announces the station's present state, and only an ACTIVE station, or one that
was ACTIVE when it entered FAULT, has its announced flag set (R171, R174). -/
def AnnounceSound (s : State) : Prop :=
  (∀ f, s.line.slot = some f → s.station.state.live = true ∧ f.state = s.station.state.announce)
    ∧ (s.station.announced = true → s.station.state = .active ∨ s.station.state = .fault)

/-- The random source is not zero while the line controller runs (R118). -/
def RandomSound (s : State) : Prop := s.station.state.live = true → s.line.lfsr ≠ 0#16

/-- Whether a bank waits for the peer table or is being merged. -/
def RxBank.isHeld : RxBank → Bool
  | .free => false
  | .receiving => false
  | .full _ => true
  | .merging _ => true

/-- Whether a bank is MERGING. -/
def RxBank.isMerging : RxBank → Bool
  | .free => false
  | .receiving => false
  | .full _ => false
  | .merging _ => true

/-- The bank the receiver is filling. -/
def Receiver.filling : Receiver → Option RxId
  | .off => none
  | .hunting => none
  | .length i => some i
  | .body i => some i
  | .waitIdle => none

/-- The receive banks, the receiver, the waiting order and the table's work agree: a bank is RECEIVING
exactly where the receiver fills it, and the line is then busy; the order lists exactly the banks that
are FULL or MERGING, once each; a bank is MERGING exactly where its merge is the table's work, and it is
then first in the order; an idle table has no frame waiting; the receiver is off in SENDING
(R95, R112, R123, R127). -/
def ReceiveSound (s : State) : Prop :=
  (∀ i, s.line.bank i = .receiving ↔ s.line.rx.filling = some i)
    ∧ (s.line.rx.filling ≠ none → s.line.busy = true)
    ∧ s.line.order.Nodup
    ∧ (∀ i, i ∈ s.line.order ↔ (s.line.bank i).isHeld = true)
    ∧ (∀ i, (s.line.bank i).isMerging = true ↔ s.peers.work = .merge i)
    ∧ (∀ i, s.peers.work = .merge i → s.line.order.head? = some i)
    ∧ (s.peers.work = .idle → s.line.order = [])
    ∧ (s.line.contention = .sending → s.line.rx = .off)
    ∧ (s.station.state.live = false → s.peers.work = .idle ∧ s.line.rx = .off)

/-- The streaks and counts stay within the ranges the spec gives them (R8, R63, R69, R107, R168). -/
def StreaksBounded (s : State) : Prop :=
  s.acq.failStreak ≤ 3 ∧ s.acq.passStreak ≤ 64
    ∧ s.sync.lockStreak ≤ 8 ∧ s.sync.slipStreak ≤ 2 ∧ s.sync.dipStreak ≤ 8
    ∧ s.xcheck.outvoted ≤ 8 ∧ s.xcheck.agreement ≤ 8 ∧ s.corr.settling ≤ 3
    ∧ s.peers.conflict ≤ 16 ∧ s.station.listenCount ≤ 255 ∧ s.history.length ≤ 4

/-- The interval position the next scan record will have. -/
def Acquisition.nextPosition (a : Acquisition) : Nat :=
  match a.scan with
  | some sc => intervalPosition sc.index
  | none => intervalPosition a.next

/-- The cycle index of the next scan record. -/
def Acquisition.nextIndex (a : Acquisition) : BitVec 6 :=
  match a.scan with
  | some sc => sc.index
  | none => a.next

/-- The cycle index at position `m` of interval `n`: an odd interval runs over 0..31, an even one over
32..63 (R4, R11). -/
def indexIn (n : Num) (m : Nat) : Nat := 32 * ((n.toNat + 1) % 2) + m

/-- The records of a bank up to its fill count are those of interval `n`, each at its interval position
(R12, R13). -/
def Bank.Holds (b : Bank) (n : Num) : Prop :=
  ∀ m, m < b.fill → ∃ r, b.records[m]? = some r ∧ r.index.toNat = indexIn n m

/-- The law of the sample store in LISTEN, ACTIVE and HOLD: exactly one bank is FILLING, its fill count is
the interval position of the next record and it holds the records of the interval in progress up to there; a
READY bank holds the 32 records of its interval; a run in flight reads two READY banks that hold its
interval and the one before; with no run in flight at most one bank is READY, and it holds the latest closed
interval (R4, R12 to R16). -/
def StoreLaw (s : State) : Prop :=
  s.station.state.live = true →
    (∃ i, (s.store.get i).state = .filling ∧ (s.store.get i).fill = s.acq.nextPosition
        ∧ (s.store.get i).Holds s.acq.interval
        ∧ ∀ j, (s.store.get j).state = .filling → j = i)
      ∧ s.acq.nextIndex.toNat = indexIn s.acq.interval s.acq.nextPosition
      ∧ (∀ i n, (s.store.get i).state = .ready n →
          (s.store.get i).fill = 32 ∧ (s.store.get i).Holds n)
      ∧ (∀ sc, s.acq.scan = some sc → s.acq.next = sc.index + 1)
      ∧ (∀ r, s.engine.run = some r →
          r.number = s.acq.closeNumber ∧ r.older ≠ r.newer
            ∧ (s.store.get r.older).state = .ready (r.number - 1)
            ∧ (s.store.get r.newer).state = .ready r.number)
      ∧ (s.engine.run = none →
          ∀ i n, (s.store.get i).state = .ready n →
            n = s.acq.closeNumber ∧ ∀ j m, (s.store.get j).state = .ready m → j = i)

/-- The saturation flag that a run leaves at its completion is that of its load chain alone: no scaling, no
division, no distance and no sum outside that chain touches it (R43 to R46, R55, R61). -/
def FlagFromLoadChain : Prop :=
  ∀ (s t : State) (r : Run), s.engine.run = some r → exec .runCompletion s = .next t →
    s.station.state.live = true ∨ s.station.state = .fault → s.station.setup.isSome = true →
      t.engine.saturated = (measureWindow (s.store.recordsOf r)).saturated

end Sys2Proof.Machine
end

