-- ==== Sys2Proof/Certificates/Slice0/Obligations.lean ====
section
/-! DEFINITION. The statements for the provers. Each docstring names the rules of spec/ it rests on; where a
clause is the model's own choice it names the log entry of notes/assumptions. -/

section

open Sys2Proof Sys2Proof.Machine

/-! ## The machine as a whole -/

/-- A step takes the command at the front of the queue and runs it with the queue's rest. On an empty queue
the block idles, which is the model's choice (log entry 2). -/
def Obligations.StepRunsFrontCommand : Prop :=
  (∀ (c : Instr) (rest : List Instr) (s : State),
      step { s with pending := c :: rest } = exec c { s with pending := rest })
    ∧ ∀ s : State, step { s with pending := [] } = .next { s with pending := [] }

/-- A command stops the model only in one of five orders that the spec's time margins exclude (R3, R35, R101,
R37, R114; that such an order is a stop is log entry 4), and no command is ever refused. -/
def Obligations.StopsOnlyOnExcludedOrders : Prop :=
  ∀ (c : Instr) (s : State),
    (∀ r, exec c s ≠ .refused r)
      ∧ (∀ f, exec c s = .fault f ↔
          (f = .expiryDuringScan ∧ (∃ codes, c = .sampleTimerExpiry codes)
              ∧ s.acq.running = true ∧ s.acq.scan.isSome = true)
            ∨ (f = .closeDuringRun
              ∧ (∃ check quench sc, c = .scanCompletion check quench ∧ s.acq.scan = some sc
                  ∧ sc.index.toNat % 32 = 31)
              ∧ s.station.setup.isSome = true ∧ s.engine.run.isSome = true)
            ∨ (f = .closeDuringCopy
              ∧ (∃ check quench sc, c = .scanCompletion check quench ∧ s.acq.scan = some sc
                  ∧ sc.index.toNat % 32 = 31)
              ∧ s.station.setup.isSome = true ∧ s.engine.run = none ∧ ∃ w, s.peers.work = .copy w)
            ∨ (f = .completionDuringCopy ∧ c = .runCompletion ∧ s.engine.run.isSome = true
              ∧ s.station.setup.isSome = true ∧ ∃ w, s.peers.work = .copy w)
            ∨ (f = .slotOccupied ∧ c = .runCompletion ∧ s.engine.run.isSome = true
              ∧ s.station.setup.isSome = true ∧ (∀ w, s.peers.work ≠ .copy w)
              ∧ s.station.state.live = true ∧ s.line.slot.isSome = true))

/-- A command that finds its block not waiting for it changes nothing. The spec has no such event; that the
model lets it pass is its choice (log entry 3). -/
def Obligations.UnawaitedEventsChangeNothing : Prop :=
  ∀ s : State,
    (∀ high, s.station.waiting = false → exec (.endOfPowerOnWait high) s = .next s)
      ∧ (s.pins.resetAsserted = false → exec .resetLineRelease s = .next s)
      ∧ (s.pins.resetN = true → exec .resetNReturnsHigh s = .next s)
      ∧ (∀ image, s.station.state ≠ .setup → exec (.setupReadCompletion image) s = .next s)
      ∧ (∀ codes, s.acq.running = false → exec (.sampleTimerExpiry codes) s = .next s)
      ∧ (∀ check quench, s.acq.scan = none → exec (.scanCompletion check quench) s = .next s)
      ∧ ((∀ w, s.peers.work ≠ .copy w) → exec .viewCopyCompletion s = .next s)
      ∧ (s.engine.run = none → exec .runCompletion s = .next s)
      ∧ ((∀ i, s.peers.work ≠ .merge i) → exec .mergeCompletion s = .next s)
      ∧ (s.link.running = false →
          exec .moduleLinkSilence s = .next s ∧ ∀ n w, exec (.statusArrival n w) s = .next s)
      ∧ (s.acq.running = false ∨ s.acq.scan ≠ none → exec .moduleLinkSilence s = .next s)
      ∧ (s.line.contention ≠ .backoff → exec .backoffExpiry s = .next s)
      ∧ (s.line.contention ≠ .check → exec .clearCheckPass s = .next s)
      ∧ (s.line.contention ≠ .sending →
          exec .collision s = .next s ∧ exec .transmissionCompletion s = .next s)
      ∧ (s.line.rx ≠ .hunting → ∀ n, exec (.startDelimiter n) s = .next s)
      ∧ ((∀ i, s.line.rx ≠ .length i) → ∀ n, exec (.lengthByteCheck n) s = .next s)
      ∧ ((∀ i, s.line.rx ≠ .body i) → ∀ b k, exec (.frameReceptionCompletion b k) s = .next s)
      ∧ (s.station.state.live = false →
          exec .backoffExpiry s = .next s ∧ exec .clearCheckPass s = .next s
            ∧ exec .lineBusy s = .next s ∧ exec .lineIdle s = .next s
            ∧ exec .collision s = .next s ∧ exec .transmissionCompletion s = .next s
            ∧ (∀ n, exec (.startDelimiter n) s = .next s) ∧ (∀ n, exec (.lengthByteCheck n) s = .next s)
            ∧ ∀ b k, exec (.frameReceptionCompletion b k) s = .next s)

/-- The station state changes only along the arrows of chapter 10: OFF by power-on, loss of supply or
reset-line assertion; SETUP from OFF; LISTEN or FAULT from SETUP; ACTIVE from LISTEN or HOLD and HOLD from
ACTIVE at a run completion; FAULT from LISTEN, ACTIVE or HOLD at the end of a merge (R160 to R163, R168 to
R173). The period trim and its frequency change only at a power-on (a loss of supply, log entry 7), at a
setup read completion and at a run completion in LISTEN, ACTIVE or HOLD (R31 to R34). -/
def Obligations.StateGraph : Prop :=
  ∀ (c : Instr) (s t : State), ReceiveSound s → exec c s = .next t →
    (t.station.state = s.station.state
        ∨ (t.station.state = .off ∧ (c = .powerOn ∨ c = .lossOfSupplyGood ∨ c = .resetLineAssertion))
        ∨ (s.station.state = .off ∧ t.station.state = .setup
          ∧ ((∃ high, c = .endOfPowerOnWait high) ∨ c = .resetLineRelease ∨ c = .resetNReturnsHigh))
        ∨ (s.station.state = .setup ∧ (t.station.state = .listen ∨ t.station.state = .fault)
          ∧ ∃ image, c = .setupReadCompletion image)
        ∨ (c = .runCompletion
          ∧ ((s.station.state = .listen ∧ t.station.state = .active)
            ∨ (s.station.state = .active ∧ t.station.state = .hold)
            ∨ (s.station.state = .hold ∧ t.station.state = .active)))
        ∨ (c = .mergeCompletion ∧ s.station.state.live = true ∧ t.station.state = .fault))
      ∧ ((t.sync.trim = s.sync.trim ∧ t.sync.trimFreq = s.sync.trimFreq)
        ∨ c = .powerOn ∨ c = .lossOfSupplyGood
        ∨ (s.station.state = .setup ∧ t.station.state = .listen)
        ∨ (c = .runCompletion ∧ s.station.state.live = true ∧ t.sync.trimFreq = s.sync.trimFreq))

/-! ## Supply, reset line and setup -/

/-- A power-on gives every block its power-on values, with no trim and no trim frequency, and begins the
power-on wait (R160, and the tables of R17, R31, R40, R59, R65, R71, R109, R130, R148, R158, R175, and R176
for the frame sequence). The queue stays as it is. A loss of supply-good ends all work at once: no run, scan,
merge, copy, frame or wait is left, the streamer, the links and the timer stand still, the select line is
deasserted, and the return of supply is a power-on like any other (R160). The model's own: that no assertion
stands after a power-on is log entry 5; that the state after reset is the state after a power-on is log entry
18, with the values of log entries 5 and 6; that registers hold power-on values after a loss is log entry 7;
that an assertion or a release without supply changes nothing is log entry 3. -/
def Obligations.PowerOnAndLossOfSupply : Prop :=
  (∀ s : State, ∃ t, exec .powerOn s = .next t ∧ ResetValues t ∧ t.station.waiting = true
      ∧ t.pins.supplyGood = true ∧ t.pins.resetAsserted = false ∧ t.sync.trim = 0
      ∧ t.sync.trimFreq = none ∧ t.sequence = 0 ∧ t.pending = s.pending)
    ∧ exec .powerOn State.reset = .next State.reset
    ∧ ∀ s : State, ∃ t, exec .lossOfSupplyGood s = .next t ∧ t.station.state = .off
    ∧ t.station.waiting = false ∧ t.pins.supplyGood = false ∧ t.pins.spiSelect = false
    ∧ t.acq.running = false ∧ t.acq.scan = none ∧ t.engine.run = none ∧ t.peers.work = .idle
    ∧ t.line.contention = .quiet ∧ t.line.slot = none ∧ t.line.rx = .off
    ∧ t.streamer.play = .idle ∧ t.link.running = false
    ∧ exec .resetLineAssertion t = .next t ∧ exec .resetLineRelease t = .next t
    ∧ exec .powerOn t = exec .powerOn s

/-- OFF is left for SETUP at the end of the power-on wait where RESET_N is high, at the release after an
assertion where the wait has ended, and at the rise that ends a short low spell which outlasted the wait
(R162). SETUP entry asserts the select line and sends the read instruction and a two-byte address of zero
(R163, R181). What is kept of the pin is log entry 5. -/
def Obligations.OffIsLeftForSetup : Prop :=
  ∀ s : State, s.station.state = .off →
    let request : List Byte := [0x03#8, 0x00#8, 0x00#8]
    (s.station.waiting = true → s.pins.resetAsserted = false →
        exec (.endOfPowerOnWait true) s
            = .next { s with
                station := { s.station with state := .setup, waiting := false }
                pins := { s.pins with resetN := true, spiSelect := true, spiSent := request } }
          ∧ exec (.endOfPowerOnWait false) s
            = .next { s with
                station := { s.station with waiting := false }
                pins := { s.pins with resetN := false } })
      ∧ (s.station.waiting = true → s.pins.resetAsserted = true → ∀ high,
          exec (.endOfPowerOnWait high) s
            = .next { s with station := { s.station with waiting := false } })
      ∧ (s.pins.supplyGood = true → s.pins.resetAsserted = true →
          (s.station.waiting = true →
            exec .resetLineRelease s
              = .next { s with pins := { s.pins with resetN := true, resetAsserted := false } })
          ∧ (s.station.waiting = false →
            exec .resetLineRelease s
              = .next { s with
                  station := { s.station with state := .setup }
                  pins := { s.pins with
                    resetN := true, resetAsserted := false, spiSelect := true, spiSent := request } }))
      ∧ (s.pins.supplyGood = true → s.pins.resetAsserted = false → s.pins.resetN = false →
          s.station.waiting = false →
            exec .resetNReturnsHigh s
              = .next { s with
                  station := { s.station with state := .setup }
                  pins := { s.pins with resetN := true, spiSelect := true, spiSent := request } })

/-- A reset-line assertion takes the station to OFF from any state with the reset values of every block, and
keeps the trim and the trim frequency (R32, R161, and the tables of chapters 1 to 11). That the power-on
wait, where it runs, runs on is log entry 9. -/
def Obligations.ResetLineAssertionValues : Prop :=
  ∀ s : State, s.pins.supplyGood = true →
    ∃ t, exec .resetLineAssertion s = .next t ∧ ResetValues t
      ∧ t.sync.trim = s.sync.trim ∧ t.sync.trimFreq = s.sync.trimFreq
      ∧ t.station.waiting = s.station.waiting ∧ t.pins.supplyGood = true
      ∧ t.pins.resetAsserted = true ∧ t.pins.resetN = false ∧ t.pending = s.pending

/-- Which images pass the four checks and what their fields become: each field that is not checked is
brought into its range, and the setup-adjusted flag tells whether any was replaced (R163, R164, R182). -/
def Obligations.SetupImageFields : Prop :=
  ∀ m : Vector Byte 32,
    let i32 (a b c d : Byte) : Int := (a ++ b ++ c ++ d : BitVec 32).toInt
    let serial : BitVec 32 := m[4] ++ m[5] ++ m[6] ++ m[7]
    let group : Int := m[1].toNat
    let id : Int := m[2].toNat
    let imax := i32 m[8] m[9] m[10] m[11]
    let vmin := i32 m[12] m[13] m[14] m[15]
    let cmax := i32 m[16] m[17] m[18] m[19]
    let tx := i32 m[20] m[21] m[22] m[23]
    let aging : Int := m[24].toNat
    let gain : Int := m[25].toNat
    let nl : Int := (m[26] ++ m[27] : BitVec 16).toNat
    let nr : Int := (m[28] ++ m[29] : BitVec 16).toNat
    ((readImage m).isSome = true ↔
        crc16 (m.toList.take 30) = m[30] ++ m[31] ∧ m[0] = 0x51#8 ∧ serial ≠ 0#32
          ∧ serial ≠ 4294967295#32 ∧ (m[3] = 50#8 ∨ m[3] = 60#8))
      ∧ ∀ v, readImage m = some v →
          v.serial = serial ∧ (v.freq = .hz50 ↔ m[3] = 50#8)
            ∧ (v.group.toNat : Int) = min 15 group ∧ (v.id.val : Int) = min 7 id
            ∧ (v.imax : Int) = max 32768 (min 4194304 imax)
            ∧ (v.vmin : Int) = max 419430 (min 7549747 vmin)
            ∧ (v.cmax : Int) = max 0 (min 2097152 cmax)
            ∧ (v.tx : Int) = max 83886 (min 4194304 tx)
            ∧ (v.aging : Int) = max 1 (min 8 aging) ∧ (v.gain : Int) = min 3 gain
            ∧ (v.listenPeriod : Int) = max 8 (min 255 nl)
            ∧ (v.reentryPeriod : Int) = max 4 (min 255 nr)
            ∧ (v.adjusted = false ↔
                (v.group.toNat : Int) = group ∧ (v.id.val : Int) = id ∧ (v.imax : Int) = imax
                  ∧ (v.vmin : Int) = vmin ∧ (v.cmax : Int) = cmax ∧ (v.tx : Int) = tx
                  ∧ (v.aging : Int) = aging ∧ (v.gain : Int) = gain
                  ∧ (v.listenPeriod : Int) = nl ∧ (v.reentryPeriod : Int) = nr)

/-- A setup read completion with a passing image takes the station from SETUP to LISTEN and starts the other
blocks in the same event: the trim is kept under an unchanged frequency code and is 0 otherwise, the timer is
loaded with P_nom + F, bank A is FILLING, the random source is seeded (R33, R113, R118, R151, R165). With a
failing image it takes the station to FAULT and changes nothing else of a station at its reset values but the
select line and the transaction on it, which end (R163, R172, R181). That carrier sense starts idle at LISTEN
entry is the model's choice (log entry 11). -/
def Obligations.SetupReadEnds : Prop :=
  (∀ (image : Vector Byte 32) (v : Setup) (s : State),
    s.station.state = .setup → readImage image = some v →
      let trim : Int := if s.sync.trimFreq = some v.freq then s.sync.trim else 0
      let p : Nat := ((match v.freq with | .hz50 => 7680 | .hz60 => 6400) + trim).toNat
      let low : BitVec 16 := v.serial.extractLsb' 0 16
      exec (.setupReadCompletion image) s
        = .next { s with
            pins := { s.pins with spiSelect := false, spiSent := [] }
            station := { s.station with state := .listen, listenCount := 0, setup := some v }
            sync := { s.sync with trim := trim, trimFreq := some v.freq, period := p }
            acq := { s.acq with running := true, load := p }
            store :=
              { a := { s.store.a with state := .filling, fill := 0 }
                b := { s.store.b with state := .free }
                c := { s.store.c with state := .free } }
            line :=
              { s.line with
                contention := .quiet, slot := none, lfsr := if low = 0 then 0xACE1#16 else low
                busy := false, rx := .hunting, bankA := .free, bankB := .free, order := [] }
            link := { s.link with running := true } })
    ∧ ∀ (image : Vector Byte 32) (s : State),
    s.station.state = .setup → RestsInOff s → readImage image = none →
      exec (.setupReadCompletion image) s
        = .next { s with
            pins := { s.pins with spiSelect := false, spiSent := [] }
            station := { s.station with state := .fault } }

/-- In OFF and SETUP every block keeps its reset values (R17, R31, R32, R40, R59, R65, R71, R109, R130, R148,
R158, R175, and R176 for the frame sequence): every step keeps that. The model's own among those values: the
timer load, the drawn wait, carrier sense idle, and no word sent, answered or due are log entry 6 (carrier
sense after an assertion log entry 23), the empty record memory of the banks is log entry 25, and that they
hold after a loss of supply-good too is log entry 7. -/
def Obligations.RestsInOffKept : Prop :=
  ∀ s t : State, RestsInOff s → step s = .next t → RestsInOff t

/-- Every step keeps this: the sample timer, the module link and the line controller run in LISTEN, ACTIVE and
HOLD and stand still elsewhere (R2, R113, R131, R151); a station in one of the three has setup values, which
lie in their ranges (R164, R165); a frame in the slot announces the present state, and the announced flag is
set only in ACTIVE, or in FAULT after ACTIVE (R171). -/
def Obligations.StationInvariantsKept : Prop :=
  ∀ s t : State, RunsOnlyLive s ∧ SetupSound s ∧ AnnounceSound s → step s = .next t →
    RunsOnlyLive t ∧ SetupSound t ∧ AnnounceSound t

/-- The state after reset meets every invariant the statements speak of. -/
def Obligations.InvariantsAtReset : Prop :=
  RestsInOff State.reset ∧ RunsOnlyLive State.reset ∧ SetupSound State.reset
    ∧ AnnounceSound State.reset ∧ CountersBounded State.reset ∧ StreaksBounded State.reset
    ∧ StoreLaw State.reset ∧ SyncSound State.reset ∧ CountedOnlyActive State.reset
    ∧ CorrectionSound State.reset ∧ PeersSound State.reset ∧ ContentionSound State.reset
    ∧ RandomSound State.reset ∧ ReceiveSound State.reset ∧ RingLaw State.reset
    ∧ PlanBounded State.reset ∧ IdleOutside State.reset ∧ SilenceSound State.reset

/-! ## Acquisition, sample store and the window close -/

/-- An expiry of the running sample timer reloads it with P, starts a scan on the captured inputs, and sends
the reference word of that scan, with the streamer's mode, enable mark and output values and the outgoing
sequence, which is raised; the silence counter is raised where a word was sent before and no good status word
answered it (R1, R3, R4, R149, R153, R179, R180). Where the counter reaches 64 the module is lost and the
streamer stops, after the sample of this expiry (R153; the order of sample and stop is log entry 10). Nothing
else changes. -/
def Obligations.SampleTimerExpiryEffect : Prop :=
  ∀ (codes : Channels Code) (s : State), s.acq.running = true → s.acq.scan = none →
    let values := outputValues s.streamer.play s.acq.next
    let silent : Bool := s.link.word.isSome && !s.link.answered
    let declared : Bool := silent && decide (64 ≤ s.link.silence + 1) && !s.link.lost
    let mode : BitVec 3 := match s.streamer.play with
      | .idle => 0 | .ramping _ => 1 | .playing _ => 2 | .holding _ => 3 | .fading _ => 4
    let enable : Bool := decide (s.streamer.play ≠ .idle)
    exec (.sampleTimerExpiry codes) s
      = .next { s with
          acq :=
            { s.acq with
              load := s.sync.period, scan := some ⟨s.acq.next, codes⟩, next := s.acq.next + 1 }
          link :=
            { s.link with
              seq := s.link.seq + 1
              word := some
                { mode := mode, enable := enable, seq := s.link.seq, values := values
                  crc := crc8
                    [mode ++ BitVec.ofBool enable ++ s.link.seq,
                     values.a.extractLsb' 8 8, values.a.extractLsb' 0 8,
                     values.b.extractLsb' 8 8, values.b.extractLsb' 0 8,
                     values.c.extractLsb' 8 8, values.c.extractLsb' 0 8] }
              answered := false
              expiryDue := false
              silence := if silent then min 64 (s.link.silence + 1) else s.link.silence
              lost := s.link.lost || declared }
          plan :=
            if declared then
              { s.plan with slot0 := .empty, slot1 := .empty, slot2 := .empty, slot3 := .empty }
            else s.plan
          streamer := if declared then { s.streamer with play := .idle } else s.streamer }

/-- A scan completion writes its record, with the check result of R7 and the over-range flags of R6, at the
fill count of the FILLING bank and raises that count; it takes the check result into the streaks and the
front-end fault flag, at every interval position (R5 to R8, R13). At position 31 it raises the close number
too (R10). Away from position 31 the bank goes on FILLING and the other banks stand, and away from positions
19 and 31 nothing else changes. -/
def Obligations.ScanCompletionStoresRecord : Prop :=
  ∀ (check : Code) (quench : Bool) (s : State) (sc : Scan) (i : BankId),
    s.acq.scan = some sc → s.station.setup.isSome = true →
    (∀ j, (s.store.get j).state = .filling ↔ j = i) →
    (s.store.get i).fill ≤ (s.store.get i).records.length →
    (sc.index.toNat % 32 = 31 → s.engine.run = none ∧ ∀ w, s.peers.work ≠ .copy w) →
      let pass : Bool :=
        if sc.index.toNat % 2 = 0 then decide (29163 ≤ check.toInt ∧ check.toInt ≤ 29819)
        else decide (-29819 ≤ check.toInt ∧ check.toInt ≤ -29163)
      let atEnd (c : Code) : Bool := decide (c = 0x7FFF#16) || decide (c = 0x8000#16)
      ∃ t, exec (.scanCompletion check quench) s = .next t
        ∧ t.acq =
            { s.acq with
              scan := none
              closeNumber :=
                if sc.index.toNat % 32 = 31 then s.acq.closeNumber + 1 else s.acq.closeNumber
              failStreak := if pass then 0 else min 3 (s.acq.failStreak + 1)
              passStreak := if pass then min 64 (s.acq.passStreak + 1) else 0
              faulty :=
                if pass then (if 64 ≤ s.acq.passStreak + 1 then false else s.acq.faulty)
                else if 3 ≤ s.acq.failStreak + 1 then true else s.acq.faulty }
        ∧ (t.store.get i).fill = (s.store.get i).fill + 1
        ∧ (t.store.get i).records[(s.store.get i).fill]?
            = some { index := sc.index, codes := sc.codes, pass := pass
                     overRange := sc.codes.map atEnd }
        ∧ (∀ n, n ≠ (s.store.get i).fill →
            (t.store.get i).records[n]? = (s.store.get i).records[n]?)
        ∧ (∀ j, j ≠ i → (t.store.get j).records = (s.store.get j).records)
        ∧ (sc.index.toNat % 32 ≠ 31 →
            (t.store.get i).state = .filling ∧ ∀ j, j ≠ i → t.store.get j = s.store.get j)
        ∧ (sc.index.toNat % 32 ≠ 19 → sc.index.toNat % 32 ≠ 31 →
            t = { s with acq := t.acq, store := t.store })

/-- The front-end fault flag over any number of scans: three failed checks in a row set it, sixty-four passed
checks in a row clear it, and fewer passes after a failed check leave it as it stood (R8). -/
def Obligations.FrontEndFlagStreaks : Prop :=
  ∀ (a : Acquisition) (checks : List Bool),
    let after := fun l : List Bool => l.foldl Acquisition.checked a
    (after (checks ++ [false, false, false])).faulty = true
      ∧ (after (checks ++ List.replicate 64 true)).faulty = false
      ∧ ∀ n, n < 64 →
          (after (checks ++ [false] ++ List.replicate n true)).faulty
            = (after (checks ++ [false])).faulty

/-- The scan completion at interval position 19 is the send deadline: a frame in BACKOFF or CHECK is dropped
and counted, a transmission goes on with its deadline mark set, an empty slot stays as it is (R121). But for
the line controller only what every scan completion changes is changed: the scan ends, the check is taken into
streaks and flag, the record goes into the FILLING bank (stated whole in ScanCompletionStoresRecord). -/
def Obligations.SendDeadline : Prop :=
  ∀ (check : Code) (quench : Bool) (s : State) (sc : Scan),
    s.acq.scan = some sc → s.station.setup.isSome = true → sc.index.toNat % 32 = 19 →
      ∃ t, exec (.scanCompletion check quench) s = .next t
        ∧ t = { s with acq := t.acq, store := t.store, line := t.line }
        ∧ t.acq =
            { s.acq with
              scan := none, failStreak := t.acq.failStreak, passStreak := t.acq.passStreak
              faulty := t.acq.faulty }
        ∧ (∀ j, (t.store.get j).state = (s.store.get j).state
            ∧ ((s.store.get j).state ≠ .filling → t.store.get j = s.store.get j))
        ∧ t.line =
            (match s.line.contention with
             | .quiet => s.line
             | .backoff | .check =>
               { s.line with
                 slot := none, contention := .quiet, sendMissed := min 255 (s.line.sendMissed + 1) }
             | .sending => { s.line with mark := true })

/-- A window close raises the close number, samples QUENCH, takes the capability snapshot, abandons a merge in
hand, whose bank goes back to FULL, purges the entries older than 64 closes and begins the copy of the view,
with the own counted status; the check of its scan goes into streaks and flag (R8); all else that changes is
the store, the engine and the streamer with its ring (R10, R74, R99 to R103, R156, R166). The copied view is
computed at the close, which is log entry 14. -/
def Obligations.WindowCloseEffect : Prop :=
  ∀ (check : Code) (quench : Bool) (s : State) (sc : Scan) (v : Setup),
    s.acq.scan = some sc → s.station.setup = some v → sc.index.toNat % 32 = 31 →
    s.engine.run = none → (∀ w, s.peers.work ≠ .copy w) →
      let k := s.acq.closeNumber + 1
      let kept := s.peers.entries.filter fun e => decide ((k - e.stamp).toNat ≤ 64)
      let pass : Bool :=
        if sc.index.toNat % 2 = 0 then decide (29163 ≤ check.toInt ∧ check.toInt ≤ 29819)
        else decide (-29819 ≤ check.toInt ∧ check.toInt ≤ -29163)
      ∃ t, exec (.scanCompletion check quench) s = .next t
        ∧ t = { s with
            acq := t.acq, store := t.store, engine := t.engine, peers := t.peers, line := t.line
            link := t.link, station := t.station, plan := t.plan, streamer := t.streamer }
        ∧ t.acq =
            { s.acq with
              closeNumber := k, scan := none
              failStreak := if pass then 0 else min 3 (s.acq.failStreak + 1)
              passStreak := if pass then min 64 (s.acq.passStreak + 1) else 0
              faulty :=
                if pass then (if 64 ≤ s.acq.passStreak + 1 then false else s.acq.faulty)
                else if 3 ≤ s.acq.failStreak + 1 then true else s.acq.faulty }
        ∧ t.station = { s.station with quench := quench }
        ∧ t.link =
            { s.link with
              snapshot :=
                if s.link.lost then 0
                else match s.link.status with | none => 0 | some r => r.capability }
        ∧ t.peers =
            { s.peers with
              entries := kept
              work := .copy
                { records := kept.map fun e =>
                    { id := e.id, state := e.state, headroom := e.headroom, e := e.e, d := e.d
                      unusable := e.unusable, age := (k - e.stamp).toNat
                      fresh := decide ((k - e.stamp).toNat = 0)
                      counted := decide (e.state = .active)
                        && decide ((k - e.stamp).toNat ≤ v.aging) }
                  ownCounted := decide (s.station.state = .active) && s.station.announced } }
        ∧ t.line =
            (match s.peers.work with
             | .merge .a =>
               (match s.line.bankA with
                | .merging f => { s.line with bankA := .full f }
                | .free | .receiving | .full _ => s.line)
             | .merge .b =>
               (match s.line.bankB with
                | .merging f => { s.line with bankB := .full f }
                | .free | .receiving | .full _ => s.line)
             | .idle | .copy _ => s.line)

/-- The rotation of the banks at close k: the FILLING bank becomes READY with number k, the first FREE bank
becomes FILLING, and run k starts on the READY bank of before and the new one, with H_told as it stands,
exactly where such a bank is there (R14, R35, R75). -/
def Obligations.CloseRotatesBanks : Prop :=
  ∀ (check : Code) (quench : Bool) (s : State) (sc : Scan) (i : BankId),
    s.acq.scan = some sc → s.station.setup.isSome = true → sc.index.toNat % 32 = 31 →
    s.engine.run = none → (∀ w, s.peers.work ≠ .copy w) →
    (∀ j, (s.store.get j).state = .filling ↔ j = i) →
      let k := s.acq.closeNumber + 1
      ∃ t, exec (.scanCompletion check quench) s = .next t
        ∧ (t.store.get i).state = .ready k ∧ (t.store.get i).fill = (s.store.get i).fill + 1
        ∧ (∀ j, (s.store.get j).state = .free →
            (∀ m, (s.store.get m).state = .free → m = j ∨ j = .a ∨ (j = .b ∧ m = .c)) →
              (t.store.get j).state = .filling ∧ (t.store.get j).fill = 0
                ∧ ∀ m, m ≠ i → m ≠ j → t.store.get m = s.store.get m)
        ∧ (∀ j n, (s.store.get j).state = .ready n →
            (∀ m n', (s.store.get m).state = .ready n' → m = j) →
              t.engine = { run := some ⟨k, j, i, s.station.told⟩, saturated := false })
        ∧ ((∀ j n, (s.store.get j).state ≠ .ready n) → t.engine = s.engine)

/-- The streamer and the ring at the boundary that begins interval k+1: the table of R136 with the slot
changes of R137 and the underrun count of R138, for the PENDING slot that targets that interval, where it is
the only such slot, and where there is none. -/
def Obligations.CloseMovesStreamer : Prop :=
  ∀ (check : Code) (quench : Bool) (s : State) (sc : Scan),
    s.acq.scan = some sc → s.station.setup.isSome = true → sc.index.toNat % 32 = 31 →
    s.engine.run = none → (∀ w, s.peers.work ≠ .copy w) →
      let target := s.acq.closeNumber + 2
      let rest : Slot → Slot := fun x =>
        match x with | .playing _ => .empty | .empty => .empty | .pending p => .pending p
      let kept (t : State) := t.plan.writeIndex = s.plan.writeIndex ∧ t.plan.latest = s.plan.latest
      ∃ t, exec (.scanCompletion check quench) s = .next t ∧ kept t
        ∧ (∀ i p, s.plan.slot i = .pending p → p.target = target →
            (∀ j q, s.plan.slot j = .pending q → q.target = target → j = i) →
              t.streamer.underruns = s.streamer.underruns
                ∧ (p.mode = .normal →
                    (∀ j, t.plan.slot j = if j = i then .playing p else rest (s.plan.slot j))
                      ∧ t.streamer.play =
                        (match s.streamer.play with
                         | .idle | .fading _ => .ramping p.triple
                         | .ramping _ | .playing _ | .holding _ => .playing p.triple))
                ∧ (p.mode = .fade →
                    match s.streamer.play with
                    | .idle | .fading _ =>
                      t.streamer.play = .idle
                        ∧ ∀ j, t.plan.slot j = if j = i then .empty else rest (s.plan.slot j)
                    | .ramping _ | .playing _ | .holding _ =>
                      t.streamer.play = .fading p.triple
                        ∧ ∀ j, t.plan.slot j = if j = i then .playing p else rest (s.plan.slot j)))
        ∧ ((∀ i p, s.plan.slot i = .pending p → p.target ≠ target) →
            match s.streamer.play with
            | .idle | .fading _ =>
              t.streamer = { s.streamer with play := .idle }
                ∧ ∀ j, t.plan.slot j = rest (s.plan.slot j)
            | .ramping x | .playing x =>
              t.streamer = ⟨.holding x, min 255 (s.streamer.underruns + 1)⟩ ∧ t.plan = s.plan
            | .holding x =>
              t.streamer = { s.streamer with play := .fading x } ∧ t.plan = s.plan)

/-- Every step keeps the law of the sample store (R12 to R16), from a state whose blocks rest in OFF and
SETUP: the FILLING bank holds the records of the interval in progress up to its fill count, a READY bank the 32
of its interval, each at its interval position. So the 64 records of a run have 64 distinct cycle indices, which
are those of a cycle window (R12, R19, R37), and the FILLING bank has room for the next record. -/
def Obligations.StoreLawKept : Prop :=
  (∀ s t : State, RestsInOff s ∧ StoreLaw s → step s = .next t → RestsInOff t ∧ StoreLaw t)
    ∧ ∀ s : State, StoreLaw s → s.station.state.live = true →
        (∀ r, s.engine.run = some r →
            (s.store.recordsOf r).length = 64
              ∧ ((s.store.recordsOf r).map fun x => x.index).Nodup
              ∧ ∀ m, m < 64 → ∃ x, (s.store.recordsOf r)[m]? = some x
                  ∧ x.index.toNat = (32 * (r.number.toNat % 2) + m) % 64)
          ∧ ∃ i, (∀ j, (s.store.get j).state = .filling ↔ j = i)
              ∧ (s.store.get i).fill < 32
              ∧ (s.store.get i).fill ≤ (s.store.get i).records.length

/-! ## Synchronizer -/

/-- The update of the synchronizer at a run completion: the dip test on V1, and in a voltage run the phase
error, the trim step and the period; in a dip run the trim stands and P is P_nom + F (R20 to R24). The lock
state and the three streaks move by the tables of R26 to R29 on the magnitude of the phase error; a streak that
a transition does not name stands, which is log entry 20. -/
def Obligations.SynchronizerUpdate : Prop :=
  ∀ (s t : State) (r : Run) (v : Setup),
    s.engine.run = some r → s.station.setup = some v → s.station.state.live = true →
    SyncSound s → exec .runCompletion s = .next t →
      let v1 := (measureWindow (s.store.recordsOf r)).v1
      let nom : Int := match v.freq with | .hz50 => 7680 | .hz60 => 6400
      let lim : Int := match v.freq with | .hz50 => 160 | .hz60 => 133
      let m : Int := min 65535 (v1.im.toInt.natAbs * 65536 / v1.re.toInt.toNat)
      let ε : Int := if v1.im.toInt < 0 then -m else m
      let a : Nat := m.toNat
      let ls := s.sync.lockStreak
      let ss := s.sync.slipStreak
      let ds := s.sync.dipStreak
      let moves (lock : Lock) (x y z : Nat) : Prop :=
        t.sync.lock = lock ∧ t.sync.lockStreak = x ∧ t.sync.slipStreak = y ∧ t.sync.dipStreak = z
      t.sync.trimFreq = s.sync.trimFreq
        ∧ ((v.vmin : Int) ≤ v1.re.toInt →
            match s.sync.lock with
            | .unlocked => moves .acquiring 0 ss ds
            | .acquiring =>
              if 1311 < a then moves .acquiring 0 ss ds
              else if ls + 1 < 8 then moves .acquiring (ls + 1) ss ds
              else moves .locked 8 0 ds
            | .locked =>
              if a ≤ 5243 then moves .locked ls 0 ds
              else if ss + 1 < 2 then moves .locked ls (ss + 1) ds
              else moves .acquiring 0 2 ds
            | .coasting => if a ≤ 1311 then moves .locked ls 0 0 else moves .acquiring 0 ss 0)
        ∧ (v1.re.toInt < (v.vmin : Int) →
            match s.sync.lock with
            | .unlocked => moves .unlocked ls ss ds
            | .acquiring => moves .unlocked 0 ss ds
            | .locked => moves .coasting ls 0 0
            | .coasting =>
              if ds + 1 < 8 then moves .coasting ls ss (ds + 1) else moves .unlocked ls ss 8)
        ∧ ((v.vmin : Int) ≤ v1.re.toInt →
            t.sync.trim = max (-lim) (min (s.sync.trim - ε.tdiv 1024) lim)
              ∧ (t.sync.period : Int) = nom + t.sync.trim - max (-64) (min (ε.tdiv 64) 64))
        ∧ (v1.re.toInt < (v.vmin : Int) →
            t.sync.trim = s.sync.trim ∧ (t.sync.period : Int) = nom + s.sync.trim)

/-- From UNLOCKED, eight voltage runs never lock and the ninth does where the last eight lay within 1,311 (R26,
R27). In ACQUIRING an error beyond 1,311 starts the count again, so that seven more runs never lock and eight
within 1,311 do, and a dip run gives UNLOCKED (R27). In LOCKED two runs in a row beyond 5,243 give ACQUIRING; one
does not where the slip streak was 0, as it is after any run within 5,243 (R28). From LOCKED, dip runs alone give
COASTING at eight completions and UNLOCKED at the ninth, with the trim untouched; one voltage run within 1,311
ends COASTING in LOCKED and one beyond it in ACQUIRING (R29). -/
def Obligations.LockAcquisitionAndCoasting : Prop :=
  ∀ (s : Synchronizer) (m m' : Nat) (ms : List Nat),
    let after (l : List Nat) : Synchronizer := l.foldl Synchronizer.onVoltage s
    (s.lock = .unlocked →
        (ms.length ≤ 8 → (after ms).lock ≠ .locked)
          ∧ (ms.length = 8 → (∀ x ∈ ms, x ≤ 1311) → (after (m :: ms)).lock = .locked))
      ∧ (s.lock = .acquiring → 1311 < m →
          (after [m]).lockStreak = 0
            ∧ (ms.length ≤ 7 → (after (m :: ms)).lock = .acquiring)
            ∧ (ms.length = 8 → (∀ x ∈ ms, x ≤ 1311) → (after (m :: ms)).lock = .locked))
      ∧ (s.lock = .acquiring → s.onDip.lock = .unlocked ∧ s.onDip.lockStreak = 0)
      ∧ (s.lock = .locked →
          (5243 < m → 5243 < m' → (after [m, m']).lock = .acquiring)
            ∧ (s.slipStreak = 0 → (after [m]).lock = .locked)
            ∧ (m ≤ 5243 → (after [m]).slipStreak = 0 ∧ (after [m, m']).lock = .locked))
      ∧ (s.lock = .locked → ∀ n,
          let d := Nat.repeat Synchronizer.onDip n s
          d.trim = s.trim ∧ (1 ≤ n → n ≤ 8 → d.lock = .coasting) ∧ (9 ≤ n → d.lock = .unlocked)
            ∧ (1 ≤ n → n ≤ 8 →
                (d.onVoltage m).lock = if m ≤ 1311 then .locked else .acquiring))

/-- The trim stays within ±F_lim and every scan period within P_nom ± (F_lim + 64): every step keeps these
bounds, and they are 7,456..7,904 ticks at 50 Hz and 6,203..6,597 ticks at 60 Hz (R25). -/
def Obligations.SyncSoundKept : Prop :=
  (∀ s t : State, SyncSound s → step s = .next t → SyncSound t)
    ∧ (∀ (y : Synchronizer) (v : Setup) (re im : Frac),
        -trimLimit v.freq ≤ y.trim → y.trim ≤ trimLimit v.freq →
          let u := y.update v re im
          u.trim ≤ trimLimit v.freq ∧ -trimLimit v.freq ≤ u.trim
            ∧ (re.toInt < (v.vmin : Int) → u.trim = y.trim)
            ∧ ∃ term : Int, -64 ≤ term ∧ term ≤ 64
              ∧ (u.period : Int) = nominalPeriod v.freq + u.trim - term)
    ∧ ∀ (s : State) (v : Setup), SyncSound s → s.station.state.live = true →
        s.station.setup = some v →
          match v.freq with
          | .hz50 =>
            -160 ≤ s.sync.trim ∧ s.sync.trim ≤ 160 ∧ 7456 ≤ s.acq.load ∧ s.acq.load ≤ 7904
              ∧ 7456 ≤ s.sync.period ∧ s.sync.period ≤ 7904
          | .hz60 =>
            -133 ≤ s.sync.trim ∧ s.sync.trim ≤ 133 ∧ 6203 ≤ s.acq.load ∧ s.acq.load ≤ 6597
              ∧ 6203 ≤ s.sync.period ∧ s.sync.period ≤ 6597

/-! ## Arithmetic of the engine -/

/-- Scale (R45): the code times k / 65,536 truncated toward zero; it keeps the sign or gives 0, never enlarges,
never saturates, and touches no saturation flag. Divide-16 (R46): the floor of a × 65,536 / b, held at
65,535. -/
def Obligations.ScaleAndDivide16 : Prop :=
  (∀ (x : Frac) (k : Nat), k ≤ 65535 →
    (scale x k).toInt = (x.toInt * k).tdiv 65536
      ∧ (0 ≤ x.toInt → 0 ≤ (scale x k).toInt) ∧ (x.toInt ≤ 0 → (scale x k).toInt ≤ 0)
      ∧ (scale x k).toInt.natAbs ≤ x.toInt.natAbs
      ∧ (scale x k).toInt.natAbs * 65536 ≤ x.toInt.natAbs * k
      ∧ x.toInt.natAbs * k < ((scale x k).toInt.natAbs + 1) * 65536
      ∧ scale x 0 = 0)
    ∧ (∀ a b : Nat, 0 < b →
    divide16 a b ≤ 65535
      ∧ (a < b → divide16 a b * b ≤ a * 65536 ∧ a * 65536 < (divide16 a b + 1) * b)
      ∧ (b ≤ a → divide16 a b = 65535))
    ∧ FlagFromLoadChain

/-- The M-norm (R47): its value, its range over fraction codes, that it is never less than the true magnitude
rounded down and never more than √5/2 (about 1.118) times the true magnitude, where it is when the smaller
part is half the larger, that max + (min + 1)/2 exceeds the true magnitude and the norm is the integer at or
just below it, and that the norm is exact when one part is 0. -/
def Obligations.MNormBounds : Prop :=
  ∀ x y : Int,
    mnorm x y = max x.natAbs y.natAbs + min x.natAbs y.natAbs / 2
      ∧ (∀ a b : Frac, mnorm a.toInt b.toInt ≤ 12582912)
      ∧ Nat.sqrt (x.natAbs ^ 2 + y.natAbs ^ 2) ≤ mnorm x y
      ∧ 4 * (x.natAbs ^ 2 + y.natAbs ^ 2)
          < (2 * max x.natAbs y.natAbs + min x.natAbs y.natAbs + 1) ^ 2
      ∧ 2 * mnorm x y ≤ 2 * max x.natAbs y.natAbs + min x.natAbs y.natAbs + 1
      ∧ 2 * max x.natAbs y.natAbs + min x.natAbs y.natAbs + 1 ≤ 2 * (mnorm x y + 1)
      ∧ 4 * mnorm x y ^ 2 ≤ 5 * (x.natAbs ^ 2 + y.natAbs ^ 2)
      ∧ (x.natAbs = 2 * y.natAbs → y.natAbs % 2 = 0 →
          4 * mnorm x y ^ 2 = 5 * (x.natAbs ^ 2 + y.natAbs ^ 2))
      ∧ mnorm x 0 = x.natAbs ∧ mnorm 0 y = y.natAbs

/-- Reduce (R43): the nearest code at 2^-23, on a tie the even one, saturated to the fraction range, with the
saturation reported exactly when it is needed; a sum divided by 32 is rounded once, five places higher
(R42). -/
def Obligations.ReduceRoundsHalfEven : Prop :=
  ∀ (acc : Int) (k : Nat), k = 23 ∨ k = 28 →
    ∃ y : Int, 2 * (y * 2 ^ k - acc) ≤ 2 ^ k ∧ 2 * (acc - y * 2 ^ k) ≤ 2 ^ k
      ∧ (2 * (y * 2 ^ k - acc) = 2 ^ k ∨ 2 * (acc - y * 2 ^ k) = 2 ^ k → y % 2 = 0)
      ∧ (reduceAt k acc).val.toInt = max (-8388608) (min y 8388607)
      ∧ ((reduceAt k acc).sat = true ↔ y < -8388608 ∨ 8388607 < y)
      ∧ (k = 23 → reduce acc = reduceAt k acc)

/-- Negation and the saturating add (R44), with the flag: the negation of -8,388,608 in the load chain sets
the saturation flag of the run, and the sums of the group command leave the flag to the load chain. -/
def Obligations.NegationAndSaturatingAdd : Prop :=
  (∀ x y : Frac,
      (x ≠ 0x800000#24 → (negate x).val.toInt = -x.toInt ∧ (negate x).sat = false)
        ∧ (negate 0x800000#24).val.toInt = 8388607 ∧ (negate 0x800000#24).sat = true
        ∧ (satAdd x y).toInt = max (-8388608) (min (x.toInt + y.toInt) 8388607)
        ∧ (-8388608 ≤ x.toInt + y.toInt → x.toInt + y.toInt ≤ 8388607 →
            (satAdd x y).toInt = x.toInt + y.toInt))
    ∧ (∀ records : List ScanRecord,
        let load := extractSet records fun r => r.codes.load
        ((positiveSequence load).im = 0x800000#24 ∨ (negativeSequence load).re = 0x800000#24
            ∨ (negativeSequence load).im = 0x800000#24 →
          (measureWindow records).saturated = true))
    ∧ FlagFromLoadChain

/-- Over a cycle window, 64 records of distinct cycle indices, a constant offset of a channel adds exactly 0 to
its sine and cosine sums, whatever the order of the records (R50, R49); a component common to all three
phasors of a set adds its own code, one part in 2^46, to each sum of the decomposition, and where the three
real parts add to zero their three terms are exactly half the first (R52). -/
def Obligations.OffsetAndZeroSequence : Prop :=
  (∀ (records : List ScanRecord) (x y : ScanRecord → Code) (c : Int),
      records.length = 64 → (records.map fun r => r.index).Nodup →
      (∀ r ∈ records, (y r).toInt = (x r).toInt + c) →
        sineSum records y = sineSum records x ∧ cosineSum records y = cosineSum records x)
    ∧ (∀ (records other : List ScanRecord) (x : ScanRecord → Code), records.Perm other →
        extract records x = extract other x)
    ∧ (∀ a b c p q a' b' c' p' q' : Frac, ∀ z w : Int,
        a'.toInt = a.toInt + z → b'.toInt = b.toInt + z → c'.toInt = c.toInt + z →
        p'.toInt = p.toInt + w → q'.toInt = q.toInt + w →
          sequenceSum a' b' c' p' q' = sequenceSum a b c p q + z)
    ∧ ∀ a b c p q : Frac, a.toInt + b.toInt + c.toInt = 0 →
        sequenceSum a b c p q = 2 ^ 22 * a.toInt + 2421583 * (p.toInt - q.toInt)

/-! ## Cross-check and correction -/

/-- The distance of two demands (R61): exact, in 0..41,943,037, the same from either side, and a peer
disagrees exactly where it is greater than Tx, which a setup image gives in 83,886..4,194,304; the
saturation flag of a run comes from its load chain alone. -/
def Obligations.DistanceOfDemands : Prop :=
  (∀ (own : Triple) (r : ViewRecord) (tx : Nat),
    let dq := r.d.q.toInt - own.q.toInt
    let dre := r.d.re.toInt - own.re.toInt
    let dim := r.d.im.toInt - own.im.toInt
    distance own r.d
        = dq.natAbs + (max dre.natAbs dim.natAbs + min dre.natAbs dim.natAbs / 2)
      ∧ -16777215 ≤ dq ∧ dq ≤ 16777215 ∧ distance own r.d ≤ 41943037
      ∧ distance own r.d = distance r.d own
      ∧ (-16777215 ≤ dre ∧ dre ≤ 16777215) ∧ (-16777215 ≤ dim ∧ dim ≤ 16777215)
      ∧ (disagrees tx own r = true ↔ tx < distance own r.d))
    ∧ (∀ image v, readImage image = some v → 83886 ≤ v.tx ∧ v.tx ≤ 4194304)
    ∧ FlagFromLoadChain

/-- The cross-check of run k at its completion, after FAULT entry too: not judged, outvoted or agreed by the
tests of R62 on record k-1 and the view, and the streaks and the flag by the table of R63. Over any number of
runs, eight outvoted windows with any number of unjudged ones among them set XCHECK, eight judged windows that
were not outvoted clear it in the same way, and unjudged windows alone change nothing. -/
def Obligations.CrossCheckAtCompletion : Prop :=
  (∀ (s : State) (r : Run) (v : Setup),
    s.engine.run = some r → s.station.setup = some v → (∀ w, s.peers.work ≠ .copy w) →
    (s.station.state.live = true ∧ s.line.slot = none) ∨ s.station.state = .fault →
      let fresh := s.peers.view.records.filter fun w => w.fresh
      let active := fresh.filter fun w => decide (w.state = .active)
      let own := s.history.find? fun c => decide (c.number = r.number - 1)
      let against := match own with
        | none => 0
        | some c => (active.filter fun w => decide (v.tx < distance c.d w.d)).length
      let judged : Bool :=
        (match own with | none => false | some c => c.usable)
          && fresh.all (fun w => !w.unusable) && decide (2 ≤ active.length)
      let x := s.xcheck
      ∃ t, exec .runCompletion s = .next t
        ∧ t.xcheck =
          if judged = false then x
          else if active.length < 2 * against then
            { outvoted := min 8 (x.outvoted + 1), agreement := 0
              flag := x.flag || decide (8 ≤ x.outvoted + 1) }
          else
            { outvoted := 0, agreement := min 8 (x.agreement + 1)
              flag := x.flag && !decide (8 ≤ x.agreement + 1) })
    ∧ ∀ (x : CrossCheck) (l : List Verdict),
    let after := l.foldl CrossCheck.update x
    ((∀ w ∈ l, w ≠ .agreed) → 8 ≤ l.count .outvoted → after.flag = true)
      ∧ ((∀ w ∈ l, w ≠ .outvoted) → 8 ≤ l.count .agreed → after.flag = false)
      ∧ ((∀ w ∈ l, w = .notJudged) → after = x)
      ∧ (x.agreement = 0 → l.count .agreed < 8 → x.flag = true → after.flag = true)

/-- The correction of run k at a completion at which the station neither enters nor leaves ACTIVE: held where
one of the five conditions of R68 is met, and otherwise moved by the step of R70 from the shortfall of R66,
each part clamped to ±Cmax; the settling count by R69. Where it enters or leaves ACTIVE both are zero (R71). -/
def Obligations.CorrectionAtCompletion : Prop :=
  ∀ (s t : State) (r : Run) (v : Setup),
    s.engine.run = some r → s.station.setup = some v → s.station.state.live = true →
    SetupSound s → exec .runCompletion s = .next t →
      let rec3 := s.history.find? fun c => decide (c.number = r.number - 3)
      let rec1 := s.history.find? fun c => decide (c.number = r.number - 1)
      let counted := s.peers.view.records.filter fun w => w.counted
      let frozen : Prop :=
        s.peers.view.ownCounted = false ∨ (∃ w ∈ counted, w.fresh = false)
          ∨ (∀ c, rec3 = some c → c.usable = false) ∨ (∀ c, rec1 = some c → c.usable = false)
          ∨ t.sync.lock = .coasting ∨ s.corr.settling < 3
      let part (pick : Triple → Frac) (a b : CloseRecord) : Int :=
        let sum := (pick a.d).toInt - (pick b.e).toInt
          - (counted.map fun w => (pick w.e).toInt).sum
        let short := max (-8388608) (min sum 8388607)
        let move := if v.gain = 0 then 0 else short.tdiv (2 ^ (5 - v.gain))
        max (-(v.cmax : Int)) (min ((pick s.corr.c).toInt + move) v.cmax)
      ((s.station.state = .active ↔ t.station.state = .active) →
          (frozen → t.corr.c = s.corr.c)
            ∧ (¬frozen → ∀ a b, rec3 = some a → rec1 = some b →
                t.corr.c.q.toInt = part Triple.q a b ∧ t.corr.c.re.toInt = part Triple.re a b
                  ∧ t.corr.c.im.toInt = part Triple.im a b)
            ∧ t.corr.settling =
                if s.peers.view.ownCounted then min 3 (s.corr.settling + 1) else s.corr.settling)
        ∧ (¬(s.station.state = .active ↔ t.station.state = .active) →
            t.corr = ⟨⟨0, 0, 0⟩, 0⟩)

/-- The correction lies within ±Cmax and is zero whenever the station is not ACTIVE: every step keeps that
(R71, R69), together with the two laws it leans on. -/
def Obligations.CorrectionSoundKept : Prop :=
  ∀ s t : State, RestsInOff s ∧ CountedOnlyActive s ∧ SetupSound s ∧ CorrectionSound s →
    step s = .next t → RestsInOff t ∧ CountedOnlyActive t ∧ SetupSound t ∧ CorrectionSound t

/-! ## Sharing the demand -/

/-- The share factor (R78): the table over the own counted status and H_told, its range, and the sum over a
group in which every counted station holds the same view, which here is the list of the told headrooms. -/
def Obligations.ShareFactorRule : Prop :=
  (∀ (w : View) (told : BitVec 16),
      let total := ((w.records.filter fun r => r.counted).map fun r => r.headroom.toNat).sum
        + told.toNat
      shareFactor w told ≤ 65535
        ∧ (w.ownCounted = false → shareFactor w told = 0)
        ∧ (told = 0 → shareFactor w told = 0)
        ∧ (w.ownCounted = true → told ≠ 0 →
            told.toNat ≤ total ∧ shareFactor w told = min 65535 (told.toNat * 65536 / total)
              ∧ (shareFactor w told = 65535 ↔ 65535 * total ≤ told.toNat * 65536)))
    ∧ ∀ hs : List Nat, hs.length ≤ 8 → 0 < hs.sum →
        let qs := (hs.map fun h => divide16 h hs.sum).sum
        (hs.length = 1 → qs = 65535)
          ∧ (2 ≤ hs.length → 65536 - hs.length + 1 ≤ qs ∧ qs ≤ 65536)

/-- Every triple written in a NORMAL slot satisfies |Rq| + M(Rn_re, Rn_im) ≤ L, with L the limit of the run
that wrote it, floor(Imax × capability snapshot / 256) (R82, R80): the limited triple always meets it, and
the slot carries the limited triple of the run unchanged. -/
def Obligations.NormalSlotWithinLimit : Prop :=
  (∀ (r : Triple) (l : Nat), measure (limitTriple r l).1 ≤ l)
    ∧ ∀ (s t : State) (r : Run) (v : Setup) (i : Fin 4) (p : Plan),
    s.engine.run = some r → s.station.setup = some v → exec .runCompletion s = .next t →
    t.plan.slot i = .pending p → s.plan.slot i ≠ .pending p → p.mode = .normal →
      let l := v.imax * s.link.snapshot.toNat / 256
      let c := (s.corr.update v r.number t.sync.lock s.history s.peers.view).c
      let g := groupCommand (measureWindow (s.store.recordsOf r)).d c
      p.triple = (limitTriple (rawReference g (shareFactor s.peers.view r.told)) l).1
        ∧ p.triple.q.toInt.natAbs
          + (max p.triple.re.toInt.natAbs p.triple.im.toInt.natAbs
            + min p.triple.re.toInt.natAbs p.triple.im.toInt.natAbs / 2)
        ≤ l

/-- The plan-slot write of run k (R87, R88, R134): a FADE of the latest triple where the station leaves ACTIVE,
the limited triple of R79 and R81 where it stays ACTIVE and was counted with a usable window, nothing
otherwise; a slot is written at the position after the write index, for interval k+2. -/
def Obligations.PlanSlotWrite : Prop :=
  ∀ (s t : State) (r : Run) (v : Setup),
    s.engine.run = some r → s.station.setup = some v → s.station.state.live = true →
    exec .runCompletion s = .next t →
      let m := measureWindow (s.store.recordsOf r)
      let l := v.imax * s.link.snapshot.toNat / 256
      let q := shareFactor s.peers.view r.told
      let raw := scaleTriple
        ⟨satAdd m.d.q t.corr.c.q, satAdd m.d.re t.corr.c.re, satAdd m.d.im t.corr.c.im⟩ q
      let written (mode : PlanMode) (x : Triple) : Prop :=
        let n := s.plan.writeIndex + 1
        t.plan.writeIndex = n ∧ t.plan.latest = some x
          ∧ ∀ j, t.plan.slot j = if j = n then .pending ⟨r.number + 2, mode, x⟩ else s.plan.slot j
      (s.station.state = .active → t.station.state ≠ .active →
          (s.plan.latest = none → t.plan = s.plan)
            ∧ ∀ x, s.plan.latest = some x → written .fade x)
        ∧ (s.station.state = .active → t.station.state = .active →
            s.peers.view.ownCounted = true →
              (m.usable = false → t.plan = s.plan)
                ∧ (m.usable = true →
                    (measure raw ≤ l → written .normal raw)
                      ∧ (l < measure raw → l = 0 → written .normal ⟨0, 0, 0⟩)
                      ∧ (l < measure raw → 0 < l →
                          written .normal (scaleTriple raw (l * 65536 / measure raw)))))
        ∧ (¬(s.station.state = .active ∧ t.station.state ≠ .active) →
            s.peers.view.ownCounted = false → t.plan = s.plan)

/-! ## Peer table -/

/-- The end of the merge of a frame of another station: its entry is written wholesale, no other entry changes,
the bank is FREE, and the next waiting frame, where there is one, is taken (R95 to R97). That the waiting
frames are kept as a list is log entry 15. -/
def Obligations.MergeWritesEntry : Prop :=
  ∀ (s : State) (v : Setup) (i : RxId) (f : Received) (a : Announced),
    s.station.setup = some v → s.peers.work = .merge i → s.line.bank i = .merging f →
    s.line.order.head? = some i → bodyState f.body = some a → bodyId f.body ≠ v.id →
      ∃ t, exec .mergeCompletion s = .next t
        ∧ t = { s with peers := t.peers, line := t.line }
        ∧ entryOf t.peers.entries (bodyId f.body)
            = some { id := bodyId f.body, state := a, headroom := bodyHeadroom f.body
                     e := bodyE f.body, d := bodyD f.body, unusable := bodyUnusable f.body
                     stamp := f.stamp }
        ∧ (∀ j, j ≠ bodyId f.body → entryOf t.peers.entries j = entryOf s.peers.entries j)
        ∧ t.peers.view = s.peers.view ∧ t.peers.conflict = s.peers.conflict
        ∧ t.line.bank i = .free
        ∧ t.line.order = s.line.order.tail
        ∧ t.line =
            { s.line with bankA := t.line.bankA, bankB := t.line.bankB, order := t.line.order }
        ∧ (s.line.order.tail = [] → t.peers.work = .idle
            ∧ t.line.bank i.other = s.line.bank i.other)
        ∧ (∀ g, s.line.order.tail = [i.other] → s.line.bank i.other = .full g →
            t.peers.work = .merge i.other ∧ t.line.bank i.other = .merging g)

/-- The end of the merge of a frame with the station's own id: with a higher serial the station keeps its id
and the conflict count becomes 16, the bank is FREE and the next waiting frame, where there is one, is taken;
with a lower or equal one the station enters FAULT, where the streamer, the line controller, the module link, the sample timer and the peer table stop, the correction is zero, and
all else keeps its value. No entry changes in either case (R95, R106, R107, R131, R139, R172). That carrier
sense is idle in FAULT is the model's choice (log entry 23). -/
def Obligations.MergeConflict : Prop :=
  ∀ (s : State) (v : Setup) (i : RxId) (f : Received),
    s.station.setup = some v → s.peers.work = .merge i → s.line.bank i = .merging f →
    s.line.order.head? = some i → bodyId f.body = v.id →
      let serial := bodySerial f.body
      (v.serial.toNat < serial.toNat →
          ∃ t, exec .mergeCompletion s = .next t
            ∧ t = { s with peers := t.peers, line := t.line }
            ∧ t.peers = { s.peers with conflict := 16, work := t.peers.work }
            ∧ t.line.bank i = .free
            ∧ t.line.order = s.line.order.tail
            ∧ t.line =
                { s.line with bankA := t.line.bankA, bankB := t.line.bankB, order := t.line.order }
            ∧ (s.line.order.tail = [] → t.peers.work = .idle
                ∧ t.line.bank i.other = s.line.bank i.other)
            ∧ (∀ g, s.line.order.tail = [i.other] → s.line.bank i.other = .full g →
                t.peers.work = .merge i.other ∧ t.line.bank i.other = .merging g))
        ∧ (serial.toNat ≤ v.serial.toNat →
          exec .mergeCompletion s
            = .next { s with
                station := { s.station with state := .fault }
                acq := { s.acq with running := false, scan := none }
                corr := ⟨⟨0, 0, 0⟩, 0⟩
                peers := { s.peers with work := .idle }
                line :=
                  { s.line with
                    contention := .quiet, slot := none, busy := false, rx := .off
                    bankA := .free, bankB := .free, order := [] }
                plan :=
                  { s.plan with slot0 := .empty, slot1 := .empty, slot2 := .empty, slot3 := .empty }
                streamer := { s.streamer with play := .idle }
                link := { s.link with running := false } })

/-- The end of the copy puts the new view in place of the old one and takes the waiting frame received first,
where one waits; nothing else changes (R95, R101, R104). -/
def Obligations.ViewCopyEnds : Prop :=
  ∀ (s : State) (w : View), s.peers.work = .copy w →
    (s.line.order = [] →
        exec .viewCopyCompletion s
          = .next { s with peers := { s.peers with view := w, work := .idle } })
      ∧ (∀ i rest f, s.line.order = i :: rest → s.line.bank i = .full f →
          ∃ t, exec .viewCopyCompletion s = .next t
            ∧ t = { s with peers := { s.peers with view := w, work := .merge i }, line := t.line }
            ∧ t.line.bank i = .merging f ∧ t.line.bank i.other = s.line.bank i.other
            ∧ t.line =
                { s.line with bankA := t.line.bankA, bankB := t.line.bankB })

/-- The table keeps at most one entry for an id, in rising order, and none for the station's own: every step
keeps that (R93, R96, R106). -/
def Obligations.PeersSoundKept : Prop :=
  ∀ s t : State, RestsInOff s ∧ PeersSound s → step s = .next t → RestsInOff t ∧ PeersSound t

/-! ## Line controller -/

/-- The backoff expiry takes the contention from BACKOFF to CHECK; a passed clear check on an idle line takes
it from CHECK to SENDING, with the receiver off and the line busy with the station's own light (R112, R115,
R116, R123; that carrier sense is held as one bit is log entry 11). A clean transmission completion leaves the
slot empty and QUIET, H_told takes the frame's headroom code, and a frame announcing ACTIVE sets the announced
flag (R122, R171). -/
def Obligations.ContentionAdvances : Prop :=
  (∀ s : State, s.station.state.live = true →
    (s.line.contention = .backoff →
        exec .backoffExpiry s = .next { s with line := { s.line with contention := .check } })
      ∧ (s.line.contention = .check → s.line.busy = false →
          exec .clearCheckPass s
            = .next { s with
                line := { s.line with contention := .sending, rx := .off, busy := true } }))
    ∧ ∀ (s : State) (f : SlotFrame), s.station.state.live = true →
    s.line.contention = .sending → s.line.slot = some f →
      exec .transmissionCompletion s
        = .next { s with
            line := { s.line with slot := none, contention := .quiet }
            station :=
              { s.station with
                told := f.headroom
                announced := if f.state = .active then true else s.station.announced } }

/-- A failed attempt, by the line going busy within the clear check or by a collision in SENDING: NB and BE are
raised, BE to at most 5; the fifth failure, or a collision after the send deadline, drops the frame and
raises send-missed; otherwise a draw of the lowest BE bits of the stepped random source gives the wait, and a
draw of 0 goes to CHECK at once (R115, R117, R118, R120). A line going busy at any other time changes
carrier sense alone. -/
def Obligations.FailedAttempt : Prop :=
  ∀ s : State, s.station.state.live = true →
    let l := s.line
    let be := min 5 (l.be + 1)
    let x := l.lfsr
    let fresh : BitVec 16 :=
      BitVec.ofBool (x.getLsbD 0 ^^ x.getLsbD 2 ^^ x.getLsbD 3 ^^ x.getLsbD 5)
        ++ (x.extractLsb' 1 15 : BitVec 15)
    let r := fresh.toNat % 2 ^ be
    let failed (l : LineController) (late : Bool) : LineController :=
      if 4 < l.nb + 1 ∨ late = true then
        { l with
          nb := l.nb + 1, be := be, slot := none, contention := .quiet
          sendMissed := min 255 (l.sendMissed + 1) }
      else
        { l with
          nb := l.nb + 1, be := be, lfsr := fresh, wait := r
          contention := if r = 0 then .check else .backoff }
    (l.contention = .sending →
        exec .collision s = .next { s with line := failed l l.mark })
      ∧ (l.contention = .check → l.busy = false →
          exec .lineBusy s = .next { s with line := failed { l with busy := true } false })
      ∧ (l.contention ≠ .check ∨ l.busy = true →
          exec .lineBusy s = .next { s with line := { l with busy := true } })

/-- The laws of contention: at most five attempts, BE 2, 3, 4, 5, 5 over them, the slot empty exactly in QUIET,
and a wait of 1 to 2^BE - 1 units; every step keeps them (R114, R115, R117). -/
def Obligations.ContentionSoundKept : Prop :=
  ∀ s t : State, ContentionSound s → step s = .next t → ContentionSound t

/-- The random source (R118): the bit a step forms and where it goes, the seed, that a non-zero register stays
non-zero, and that every step of the part keeps it non-zero in LISTEN, ACTIVE and HOLD. -/
def Obligations.RandomSource : Prop :=
  (∀ x : BitVec 16,
      (∀ i, i < 15 → (lfsrStep x).getLsbD i = x.getLsbD (i + 1))
        ∧ (lfsrStep x).getLsbD 15
            = (x.getLsbD 0 ^^ x.getLsbD 2 ^^ x.getLsbD 3 ^^ x.getLsbD 5)
        ∧ (x ≠ 0 → lfsrStep x ≠ 0))
    ∧ (∀ n : BitVec 32,
        (n.toNat % 65536 ≠ 0 → (lfsrSeed n).toNat = n.toNat % 65536)
          ∧ (n.toNat % 65536 = 0 → lfsrSeed n = 0xACE1#16))
    ∧ ∀ s t : State, RandomSound s → step s = .next t → RandomSound t

/-- The byte 0x9E at a receiver that looks for a delimiter. After fewer than 16 bits of preamble it is not
recognised: no bank is claimed and nothing counted, and only carrier sense goes busy, as at LINE_BUSY (R178).
After 16 or more it is a start delimiter, which claims the bank not claimed last, else the one claimed last, and
with neither FREE the frame is ignored and an rx overrun counted (R124). The light makes the line busy, so that a
clear check being timed fails first, as at LINE_BUSY (R112; log entry 11). -/
def Obligations.DelimiterClaimsBank : Prop :=
  ∀ (s : State) (n : Nat), s.station.state.live = true → s.line.rx = .hunting →
    (n < 16 → exec (.startDelimiter n) s = exec .lineBusy s)
      ∧ (n < 16 → ∀ t, exec (.startDelimiter n) s = .next t →
          (∀ i, t.line.bank i = s.line.bank i) ∧ t.line.rx = .hunting
            ∧ t.line.lastClaimed = s.line.lastClaimed ∧ t.line.rxOverruns = s.line.rxOverruns
            ∧ t.line.badFrames = s.line.badFrames ∧ t.line.busy = true)
      ∧ (16 ≤ n → ∀ t, exec .lineBusy s = .next t →
          exec (.startDelimiter n) s = exec (.startDelimiter n) t)
      ∧ (16 ≤ n → s.line.contention ≠ .check ∨ s.line.busy = true →
          let i := s.line.lastClaimed
          let l := { s.line with busy := true }
          (s.line.bank i.other = .free →
              exec (.startDelimiter n) s
                = .next { s with
                    line := { l.setBank i.other .receiving with
                      lastClaimed := i.other, rx := .length i.other } })
            ∧ (s.line.bank i.other ≠ .free → s.line.bank i = .free →
              exec (.startDelimiter n) s
                = .next { s with line := { l.setBank i .receiving with rx := .length i } })
            ∧ (s.line.bank i.other ≠ .free → s.line.bank i ≠ .free →
              exec (.startDelimiter n) s
                = .next { s with
                    line := { l with
                      rx := .waitIdle, rxOverruns := min 255 (l.rxOverruns + 1) } }))

/-- The length byte and the end of a reception: a length byte of 33 goes on to the body, any other fails the
frame; a line gone idle before the last byte fails it too; a failure frees the bank and is counted. An idle
line lets the receiver look for a delimiter again, also after the station's own transmission (R112, R123,
R124, R125). That LINE_IDLE in SENDING, where the station's own light keeps the line busy, changes nothing is
the model's (log entry 11). -/
def Obligations.LengthByteAndIdleLine : Prop :=
  ∀ s : State, s.station.state.live = true →
    let failed (i : RxId) : LineController :=
      { s.line.setBank i .free with badFrames := min 255 (s.line.badFrames + 1) }
    (∀ i, s.line.rx = .length i →
        exec (.lengthByteCheck 33#8) s = .next { s with line := { s.line with rx := .body i } }
          ∧ ∀ n, n ≠ 33#8 →
              exec (.lengthByteCheck n) s
                = .next { s with line := { failed i with rx := .waitIdle } })
      ∧ (s.line.contention ≠ .sending →
          (∀ i, s.line.rx = .length i ∨ s.line.rx = .body i →
              exec .lineIdle s
                = .next { s with line := { failed i with busy := false, rx := .hunting } })
            ∧ (s.line.rx = .off ∨ s.line.rx = .hunting ∨ s.line.rx = .waitIdle →
              exec .lineIdle s
                = .next { s with line := { s.line with busy := false, rx := .hunting } }))
      ∧ (s.line.contention = .sending → exec .lineIdle s = .next s)

/-- The frame-reception completion: a frame fails unless its CRC, its kind and format and its state are good,
and is then counted; a good frame of another group frees its bank uncounted; a good frame of this group is
FULL with the interval number, and its merge starts at once where the table has no work in hand (R95, R98,
R125, R126). -/
def Obligations.FrameReception : Prop :=
  ∀ (s : State) (v : Setup) (i : RxId) (body : Vector Byte 33) (crc : BitVec 16),
    s.station.state.live = true → s.station.setup = some v → s.line.rx = .body i →
      let good : Prop := crc16 (33#8 :: body.toList) = crc ∧ body[0] = 0x11#8
        ∧ (body[7].extractLsb' 6 2 : BitVec 2) ≠ 3#2
      let f : Received := ⟨body, s.acq.closeNumber + 1⟩
      let l := { s.line with rx := .waitIdle }
      (¬good → s.line.order = [] ∨ s.peers.work ≠ .idle →
          exec (.frameReceptionCompletion body crc) s
            = .next { s with
                line := { l.setBank i .free with badFrames := min 255 (l.badFrames + 1) } })
        ∧ (good → (body[1].extractLsb' 4 4 : BitVec 4) ≠ v.group →
            s.line.order = [] ∨ s.peers.work ≠ .idle →
            exec (.frameReceptionCompletion body crc) s
              = .next { s with line := l.setBank i .free })
        ∧ (good → (body[1].extractLsb' 4 4 : BitVec 4) = v.group → s.peers.work ≠ .idle →
            exec (.frameReceptionCompletion body crc) s
              = .next { s with
                  line := { l.setBank i (.full f) with order := s.line.order ++ [i] } })
        ∧ (good → (body[1].extractLsb' 4 4 : BitVec 4) = v.group → s.peers.work = .idle →
            s.line.order = [] →
            exec (.frameReceptionCompletion body crc) s
              = .next { s with
                  line := { l.setBank i (.merging f) with order := [i] }
                  peers := { s.peers with work := .merge i } })

/-- What the frame builder writes the receiver reads: every share frame passes the receive checks, and its
group, id, serial, state, headroom, unusable flag and both triples are read back as they were written, with
the other fields at their places for a listener (R93, R125, R176, R178, R182). -/
def Obligations.FrameRoundTrip : Prop :=
  ∀ (f : FrameFields) (stamp : BitVec 16),
    let b := (shareFrame f).body
    frameGood b (shareFrame f).crc = true ∧ (shareFrame f).crc = crc16 (33#8 :: b.toList)
      ∧ bodyGroup b = f.group ∧ bodySerial b = f.serial
      ∧ frameEntry ⟨b, stamp⟩
          = some { id := f.id, state := f.state, headroom := f.headroom, e := f.e, d := f.d
                   unusable := f.flags.unusable, stamp := stamp }
      ∧ b[1].getLsbD 0 = f.adjusted ∧ b[6] = f.sequence
      ∧ b[7].getLsbD 5 = f.causes.sync ∧ b[7].getLsbD 4 = f.causes.module
      ∧ b[7].getLsbD 3 = f.causes.frontend ∧ b[7].getLsbD 2 = f.causes.quench
      ∧ b[7].getLsbD 1 = f.causes.xcheck ∧ b[7].getLsbD 0 = f.conflictSeen
      ∧ (b[8].extractLsb' 5 3 : BitVec 3) = 0 ∧ b[8].getLsbD 4 = f.flags.clipped
      ∧ b[8].getLsbD 2 = f.flags.overRange ∧ b[8].getLsbD 1 = f.flags.coasting
      ∧ b[8].getLsbD 0 = f.flags.frozen
      ∧ (f.counters.badFrames ≤ 255 → b[29].toNat = f.counters.badFrames)
      ∧ (f.counters.sendMissed ≤ 255 → b[30].toNat = f.counters.sendMissed)
      ∧ (f.counters.underruns ≤ 255 → b[31].toNat = f.counters.underruns)
      ∧ (f.counters.overruns ≤ 255 → b[32].toNat = f.counters.overruns)

/-- The receive banks, the receiver, the order of waiting frames and the table's work agree: every step keeps
that (R95, R123, R124, R127), together with the law it leans on, that the timer, the module link and the line
controller run in LISTEN, ACTIVE and HOLD and stand still elsewhere, with no scan in progress (R2, R113, R131,
R151). -/
def Obligations.ReceiveSoundKept : Prop :=
  ∀ s t : State, RunsOnlyLive s ∧ ReceiveSound s → step s = .next t → RunsOnlyLive t ∧ ReceiveSound t

/-- Each status counter stays within 0..255, each step raises it by at most one, and only a power-on, a
reset-line assertion, or the loss of supply (log entry 7) lowers it (R128, R138); the streaks and counts of
the other blocks keep their ranges too (R8, R63, R69, R107, R168). -/
def Obligations.CountersOnlyRise : Prop :=
  (∀ (c : Instr) (s t : State), CountersBounded s → exec c s = .next t →
      CountersBounded t
        ∧ (c ≠ .powerOn → c ≠ .lossOfSupplyGood → c ≠ .resetLineAssertion →
            let rises (a b : Nat) : Prop := a ≤ b ∧ b ≤ a + 1
            rises s.line.badFrames t.line.badFrames ∧ rises s.line.sendMissed t.line.sendMissed
              ∧ rises s.line.rxOverruns t.line.rxOverruns
              ∧ rises s.streamer.underruns t.streamer.underruns))
    ∧ ∀ s t : State, StreaksBounded s → step s = .next t → StreaksBounded t

/-! ## Plan ring, streamer and module link -/

/-- The plan ring never holds more than one PENDING slot, whose target is the interval after the one playing
when it was written, and what is PLAYING is the source of the streamer: every step keeps the law of the ring
(R133, R134, R137). -/
def Obligations.RingLawKept : Prop :=
  ∀ s t : State, RingLaw s → step s = .next t →
    RingLaw t
      ∧ (∀ i j p q, t.plan.slot i = .pending p → t.plan.slot j = .pending q → i = j)
      ∧ ∀ i j p q, t.plan.slot i = .playing p → t.plan.slot j = .playing q → i = j

/-- In OFF, SETUP, LISTEN and FAULT the streamer is IDLE and the ring is empty: every step keeps that (R147),
together with the two laws it leans on. -/
def Obligations.IdleOutsideKept : Prop :=
  ∀ s t : State, RestsInOff s ∧ CountedOnlyActive s ∧ IdleOutside s → step s = .next t →
    RestsInOff t ∧ CountedOnlyActive t ∧ IdleOutside t

/-- Every triple in the ring, in the latest-write record and in the streamer keeps the bound of the largest
limit, 4,177,920: every step keeps that (R80, R82, R88, R144). -/
def Obligations.PlanBoundedKept : Prop :=
  ∀ s t : State, SetupSound s ∧ PlanBounded s → step s = .next t → SetupSound t ∧ PlanBounded t

/-- The relations every reference word holds: mode IDLE exactly with enable clear, and then three zero values;
no mode code 5, 6 or 7; values within ±16,400; its CRC-8 over its seven other bytes (R145, R146, R150, R179,
R180). -/
def Obligations.ReferenceWordRelations : Prop :=
  ∀ (codes : Channels Code) (s t : State), PlanBounded s → s.acq.running = true →
    exec (.sampleTimerExpiry codes) s = .next t →
      ∃ w, t.link.word = some w
        ∧ (w.mode = 0 ↔ w.enable = false)
        ∧ (w.enable = false → w.values = ⟨0, 0, 0⟩)
        ∧ w.mode.toNat ≤ 4 ∧ (w.enable = true ↔ s.streamer.play ≠ .idle)
        ∧ (∀ x, x = w.values.a ∨ x = w.values.b ∨ x = w.values.c →
            -16400 ≤ x.toInt ∧ x.toInt ≤ 16400)
        ∧ w.seq = s.link.seq ∧ t.link.seq = w.seq + 1
        ∧ w.bytes.length = 8 ∧ w.bytes.getLast? = some (crc8 (w.bytes.take 7))

/-- The three output values of a scan, from the source triple and the streamer's state. In IDLE they are zero. In
PLAYING and HOLDING the source triple is synthesized unscaled; RAMPING scales it by 2,048 × m at scan position
m = 1..31 and plays it unscaled at 32; FADING scales it by 2,048 × (32 - m), and its last scan is zero (R135,
R141, R142, R146). No part of a scaled triple is larger than that of its source, nor is its measure. The
synthesis is that of R143 and R144, written out: the rotated pairs and the three samples, each one exact sum
reduced once; an output value is its sample divided by 256, rounded to the nearest integer with halves to even,
and saturated to 16 bits (R145). -/
def Obligations.RampAndFade : Prop :=
  ∀ (x : Triple) (index : BitVec 6),
    let m := index.toNat % 32 + 1
    let out (p : Play) := outputValues p index
    let sn : Int := sine (4 * index.toNat)
    let cs : Int := sine (4 * index.toNat + 64)
    let red (acc : Int) : Int := (reduce acc).val.toInt
    let sm := red (-4194304 * sn - 7264748 * cs)
    let cm := red (-4194304 * cs + 7264748 * sn)
    let sp := red (-4194304 * sn + 7264748 * cs)
    let cp := red (-4194304 * cs - 7264748 * sn)
    let converts (r : Int) (v : Code) : Prop :=
      ∃ y : Int, 2 * (y * 256 - r) ≤ 256 ∧ 2 * (r - y * 256) ≤ 256
        ∧ (2 * (y * 256 - r) = 256 ∨ 2 * (r - y * 256) = 256 → y % 2 = 0)
        ∧ v.toInt = max (-32768) (min y 32767)
    let plays (z : Triple) (v : Phases Code) : Prop :=
      converts (red (z.q.toInt * cs + z.re.toInt * sn + z.im.toInt * cs)) v.a
        ∧ converts (red (z.q.toInt * cm + z.re.toInt * sp + z.im.toInt * cp)) v.b
        ∧ converts (red (z.q.toInt * cp + z.re.toInt * sm + z.im.toInt * cm)) v.c
    let scaled (n : Nat) : Triple := ⟨scale x.q n, scale x.re n, scale x.im n⟩
    out .idle = ⟨0, 0, 0⟩ ∧ plays x (out (.playing x)) ∧ plays x (out (.holding x))
      ∧ (m < 32 → plays (scaled (2048 * m)) (out (.ramping x)))
      ∧ (m = 32 → plays x (out (.ramping x)) ∧ out (.fading x) = ⟨0, 0, 0⟩)
      ∧ plays (scaled (2048 * (32 - m))) (out (.fading x))
      ∧ ∀ n, n ≤ 65535 →
          (scaled n).q.toInt.natAbs ≤ x.q.toInt.natAbs
            ∧ (scaled n).re.toInt.natAbs ≤ x.re.toInt.natAbs
            ∧ (scaled n).im.toInt.natAbs ≤ x.im.toInt.natAbs ∧ measure (scaled n) ≤ measure x

/-- A status word: one that is not good changes nothing, nor does one that comes between a declaration of silence
and the step of its expiry, whose scan period has ended (R152, section 9.2; log entry 10); a good one replaces the status record, sets the
silence counter to 0 and clears the lost flag; one with the tripped flag also sets the trip latch and stops
the streamer, with the write index, the latest-write record and the underrun counter as they were (R139,
R152, R154, R155, R179, R180). -/
def Obligations.StatusWord : Prop :=
  ∀ (bits : Nat) (word : BitVec 24) (s : State), s.link.running = true →
    let b0 : Byte := word.extractLsb' 16 8
    let b1 : Byte := word.extractLsb' 8 8
    let b2 : Byte := word.extractLsb' 0 8
    let good : Prop := bits = 24 ∧ crc8 [b0, b1] = b2 ∧ s.link.expiryDue = false
      ∧ ∃ w, s.link.word = some w ∧ (b0.extractLsb' 0 4 : BitVec 4) = w.seq
    let taken : ModuleLink :=
      { s.link with
        answered := true, status := some ⟨b0.getLsbD 7, b1⟩, silence := 0, lost := false }
    (¬good → exec (.statusArrival bits word) s = .next s)
      ∧ (good → b0.getLsbD 6 = false →
          exec (.statusArrival bits word) s = .next { s with link := taken })
      ∧ (good → b0.getLsbD 6 = true →
          exec (.statusArrival bits word) s
            = .next { s with
                link := { taken with tripLatch := true }
                plan :=
                  { s.plan with slot0 := .empty, slot1 := .empty, slot2 := .empty, slot3 := .empty }
                streamer := { s.streamer with play := .idle } })

/-- Module-link silence (R153), declared at the expiry at which the counter reaches 64. Taken before the expiry's
own step it sets the lost flag and stops the streamer; no status word is taken until that step, which sends a
word with enable clear and declares nothing more. Taken with the expiry's step it has the same end, and the
command then finds nothing to do. During a scan, with the timer stopped, with the scan answered, below 63 silent
scans, or with the declaration standing, nothing is declared. The two orders are log entry 10. The lost flag
stands exactly while the counter is 64: every step keeps that (R153, R154). -/
def Obligations.ModuleSilence : Prop :=
  (∀ s : State, s.link.running = true → s.acq.running = true → s.acq.scan = none →
      s.link.word.isSome = true → s.link.answered = false →
      63 ≤ s.link.silence → s.link.lost = false →
        let t : State :=
          { s with
            link := { s.link with silence := 64, lost := true, expiryDue := true }
            plan :=
              { s.plan with slot0 := .empty, slot1 := .empty, slot2 := .empty, slot3 := .empty }
            streamer := { s.streamer with play := .idle } }
        exec .moduleLinkSilence s = .next t ∧ exec .moduleLinkSilence t = .next t
          ∧ (∀ bits word, exec (.statusArrival bits word) t = .next t)
          ∧ (∀ codes, ∃ u, exec (.sampleTimerExpiry codes) t = .next u
              ∧ u.link.silence = 64 ∧ u.link.lost = true ∧ u.link.expiryDue = false
              ∧ u.plan = t.plan ∧ u.streamer = t.streamer
              ∧ ∃ w, u.link.word = some w ∧ w.enable = false)
          ∧ ∀ codes, ∃ u, exec (.sampleTimerExpiry codes) s = .next u
              ∧ u.link.silence = 64 ∧ u.link.lost = true ∧ u.link.expiryDue = false
              ∧ u.plan = t.plan ∧ u.streamer = t.streamer
              ∧ (∃ w, u.link.word = some w ∧ (w.enable = false ↔ s.streamer.play = .idle))
              ∧ exec .moduleLinkSilence u = .next u)
    ∧ (∀ s : State,
        s.acq.scan ≠ none ∨ s.acq.running = false ∨ s.link.word = none ∨ s.link.answered = true
            ∨ s.link.silence < 63 ∨ s.link.lost = true →
          exec .moduleLinkSilence s = .next s)
    ∧ ∀ s t : State, SilenceSound s → step s = .next t → SilenceSound t

/-! ## Run completion and the station controller -/

/-- A run completion in LISTEN, ACTIVE or HOLD: the close record is pushed, the older bank freed, the engine
idle, the trip latch read and cleared, the conflict count and the sequence counter stepped, and the frame of
the run placed in the slot with NB 0, BE 2 and a first draw; the blocks not named keep their state (R15, R39,
R57, R107, R114, R115, R157, R176). The frame carries D, E, the usable mark, the hold-cause set and the state
of the evaluation, the four counters, and floor(L / 128) as its headroom code (R85, R129, R176). Its clipped
flag is set exactly where the window is usable and the raw reference measures more than L (R79, R81, R83, R86),
and its correction-frozen flag exactly where one of the five conditions of R68 freezes the run (R72). -/
def Obligations.RunCompletionHandover : Prop :=
  ∀ (s : State) (r : Run) (v : Setup),
    s.engine.run = some r → s.station.setup = some v → s.station.state.live = true →
    s.line.slot = none → (∀ w, s.peers.work ≠ .copy w) →
      let m := measureWindow
        ((s.store.get r.older).records.take 32 ++ (s.store.get r.newer).records.take 32)
      let fresh := lfsrStep s.line.lfsr
      let l := v.imax * s.link.snapshot.toNat / 256
      let c (t : State) := (s.corr.update v r.number t.sync.lock s.history s.peers.view).c
      let raw (t : State) := scaleTriple
        ⟨satAdd m.d.q (c t).q, satAdd m.d.re (c t).re, satAdd m.d.im (c t).im⟩
        (shareFactor s.peers.view r.told)
      let unfit (n : BitVec 16) : Prop :=
        ∀ x, s.history.find? (fun y => decide (y.number = n)) = some x → x.usable = false
      ∃ t f b, exec .runCompletion s = .next t
        ∧ t = { s with
            sync := t.sync, history := t.history, xcheck := t.xcheck, corr := t.corr
            station := t.station, plan := t.plan, line := t.line, store := t.store
            engine := ⟨none, m.saturated⟩
            link := { s.link with tripLatch := false }
            peers := { s.peers with conflict := s.peers.conflict - 1 }
            sequence := s.sequence + 1 }
        ∧ t.history = (⟨r.number, m.d, m.e, m.usable⟩ :: s.history).take 4
        ∧ t.store.get r.older = { s.store.get r.older with state := .free }
        ∧ (∀ j, j ≠ r.older → t.store.get j = s.store.get j)
        ∧ t.line =
            { s.line with
              slot := some f, nb := 0, be := 2, mark := false, lfsr := fresh
              wait := fresh.toNat % 4
              contention := if fresh.toNat % 4 = 0 then .check else .backoff }
        ∧ f.headroom.toNat = l / 128 % 65536 ∧ (v.imax ≤ 4194304 → f.headroom.toNat ≤ 32640)
        ∧ f.body = frameBody b ∧ f.crc = crc16 (33#8 :: f.body.toList) ∧ b.headroom = f.headroom
        ∧ b.group = v.group ∧ b.id = v.id ∧ b.serial = v.serial ∧ b.adjusted = v.adjusted
        ∧ b.sequence = s.sequence ∧ b.state = f.state
        ∧ (t.station.state = .listen ∧ b.state = .listen
            ∨ t.station.state = .active ∧ b.state = .active
            ∨ t.station.state = .hold ∧ b.state = .hold)
        ∧ b.causes = t.station.causes ∧ b.conflictSeen = decide (0 < s.peers.conflict)
        ∧ b.d = m.d ∧ b.e = m.e ∧ b.flags.unusable = !m.usable ∧ b.flags.overRange = m.overRange
        ∧ b.flags.coasting = decide (t.sync.lock = .coasting)
        ∧ (b.flags.clipped = true ↔ m.usable = true ∧ l < measure (raw t))
        ∧ (b.flags.frozen = true ↔
            s.peers.view.ownCounted = false
              ∨ (∃ w ∈ s.peers.view.records, w.counted = true ∧ w.fresh = false)
              ∨ unfit (r.number - 3) ∨ unfit (r.number - 1)
              ∨ t.sync.lock = .coasting ∨ s.corr.settling < 3)
        ∧ b.counters = ⟨s.line.badFrames, s.line.sendMissed, s.streamer.underruns, s.line.rxOverruns⟩

/-- What a run measures of its records. A phasor of a channel is its sine sum and its cosine sum over the
records, each code as a fraction times the table entry of its cycle index, divided by 32 and reduced once (R19,
R41, R49). The components of a set are the four sums of R51, each reduced once. V1 is the positive-sequence
component of the voltage set (R51). The demand is the negated load components with -8,388,608 going to
8,388,607, the delivered triple the own components as they are (R53, R54), the over-range mark that of any flag of
any record (R9), and the window is usable exactly where no check failed and nothing of the load chain saturated
(R55). -/
def Obligations.DemandDeliveredUsable : Prop :=
  (∀ (records : List ScanRecord) (x : ScanRecord → Code),
    let s := (records.map fun r => (x r).toInt * 256 * sine (4 * r.index.toNat)).sum
    let c := (records.map fun r => (x r).toInt * 256 * sine (4 * r.index.toNat + 64)).sum
    (extract records x).re = (reduceAt 28 s).val ∧ (extract records x).im = (reduceAt 28 c).val
      ∧ (extract records x).sat = ((reduceAt 28 s).sat || (reduceAt 28 c).sat))
    ∧ (∀ p : Phases Phasor,
      let e (x : Phasor) (re im : Int) : Prop :=
        x.re = (reduce re).val ∧ x.im = (reduce im).val
          ∧ x.sat = ((reduce re).sat || (reduce im).sat)
      let re := 2796203 * p.a.re.toInt - 1398101 * p.b.re.toInt - 1398101 * p.c.re.toInt
      let im := 2796203 * p.a.im.toInt - 1398101 * p.b.im.toInt - 1398101 * p.c.im.toInt
      e (positiveSequence p) (re + 2421583 * p.c.im.toInt - 2421583 * p.b.im.toInt)
          (im + 2421583 * p.b.re.toInt - 2421583 * p.c.re.toInt)
        ∧ e (negativeSequence p) (re + 2421583 * p.b.im.toInt - 2421583 * p.c.im.toInt)
          (im + 2421583 * p.c.re.toInt - 2421583 * p.b.re.toInt))
    ∧ ∀ records : List ScanRecord,
      let m := measureWindow records
      let set (pick : ScanRecord → Phases Code) : Phases Phasor :=
        ⟨extract records fun r => (pick r).a, extract records fun r => (pick r).b,
         extract records fun r => (pick r).c⟩
      let load := set fun r => r.codes.load
      let own := set fun r => r.codes.own
      let i1 := positiveSequence load
      let i2 := negativeSequence load
      let neg (d x : Frac) : Prop := d.toInt = min 8388607 (-x.toInt)
      m.v1 = positiveSequence (set fun r => r.codes.volt)
        ∧ neg m.d.q i1.im ∧ neg m.d.re i2.re ∧ neg m.d.im i2.im
        ∧ m.e = ⟨(positiveSequence own).im, (negativeSequence own).re, (negativeSequence own).im⟩
        ∧ (m.saturated = true ↔
            load.a.sat = true ∨ load.b.sat = true ∨ load.c.sat = true ∨ i1.sat = true ∨ i2.sat = true
              ∨ i1.im.toInt = -8388608 ∨ i2.re.toInt = -8388608 ∨ i2.im.toInt = -8388608)
        ∧ (m.usable = true ↔ m.saturated = false ∧ ∀ r ∈ records, r.pass = true)
        ∧ (m.overRange = true ↔ ∃ r ∈ records, r.overRange.any = true)

/-- The evaluation at a run completion (R157, R167): the five hold causes from the blocks as they stand, and
the transition of LISTEN (R168), ACTIVE (R169) or HOLD (R170) made from them, with the counters, the announced
flag (R171) and H_told. -/
def Obligations.StationTransitions : Prop :=
  ∀ (s t : State) (r : Run) (v : Setup),
    s.engine.run = some r → s.station.setup = some v → s.station.state.live = true →
    exec .runCompletion s = .next t →
      let notReady : Bool := match s.link.status with | none => true | some x => !x.ready
      let causes : Causes :=
        { sync := decide (t.sync.lock = .unlocked ∨ t.sync.lock = .acquiring)
          module := notReady || s.link.tripLatch || s.link.lost
          frontend := s.acq.faulty, quench := s.station.quench, xcheck := t.xcheck.flag }
      let n := min 255 (s.station.listenCount + 1)
      (s.station.state = .listen →
          t.station =
            (if v.listenPeriod ≤ n ∧ t.sync.lock = .locked ∧ causes = ⟨false, false, false, false, false⟩
             then { s.station with
                causes := causes, listenCount := n, state := .active, announced := false }
             else { s.station with causes := causes, listenCount := n }))
        ∧ (s.station.state = .active →
          t.station =
            (if causes = ⟨false, false, false, false, false⟩ then { s.station with causes := causes }
             else { s.station with
                causes := causes, state := .hold, reentryCount := 0, announced := false }))
        ∧ (s.station.state = .hold →
          t.station =
            (if causes ≠ ⟨false, false, false, false, false⟩ then
              { s.station with causes := causes, reentryCount := 0 }
             else if v.reentryPeriod ≤ s.station.reentryCount + 1 then
              { s.station with
                causes := causes, reentryCount := s.station.reentryCount + 1, state := .active
                announced := false }
             else
              { s.station with causes := causes, reentryCount := s.station.reentryCount + 1 }))

/-- A run that completes after FAULT entry pushes its close record and updates the cross-check streaks and flag
by the tests of R62 on record k-1 and the view and the table of R63, and nothing else changes but the engine,
which is idle (R173, R34, R89). That the banks then keep their states is log entry 12, and that the settling
count does log entry 22. -/
def Obligations.RunCompletionInFault : Prop :=
  ∀ (s : State) (r : Run) (v : Setup),
    s.engine.run = some r → s.station.setup = some v → s.station.state = .fault →
    (∀ w, s.peers.work ≠ .copy w) →
      let m := measureWindow
        ((s.store.get r.older).records.take 32 ++ (s.store.get r.newer).records.take 32)
      let fresh := s.peers.view.records.filter fun w => w.fresh
      let active := fresh.filter fun w => decide (w.state = .active)
      let own := s.history.find? fun c => decide (c.number = r.number - 1)
      let against := match own with
        | none => 0
        | some c => (active.filter fun w => decide (v.tx < distance c.d w.d)).length
      let judged : Bool :=
        (match own with | none => false | some c => c.usable)
          && fresh.all (fun w => !w.unusable) && decide (2 ≤ active.length)
      let x := s.xcheck
      exec .runCompletion s
        = .next { s with
            history := (⟨r.number, m.d, m.e, m.usable⟩ :: s.history).take 4
            xcheck :=
              if judged = false then x
              else if active.length < 2 * against then
                { outvoted := min 8 (x.outvoted + 1), agreement := 0
                  flag := x.flag || decide (8 ≤ x.outvoted + 1) }
              else
                { outvoted := 0, agreement := min 8 (x.agreement + 1)
                  flag := x.flag && !decide (8 ≤ x.agreement + 1) }
            engine := ⟨none, m.saturated⟩ }

end
end

