-- ==== Sys2Proof/Laws/Arithmetic.lean ====
section
/-! SUPPORT. The small lemmas of the engine's arithmetic: what clamping, narrowing and holding give. -/

namespace Sys2Proof.Machine

open Sys2Proof

theorem le_clamp {lo hi x : Int} : lo ≤ clamp lo hi x := le_max_left _ _

theorem clamp_le {lo hi x : Int} (h : lo ≤ hi) : clamp lo hi x ≤ hi :=
  max_le h (min_le_right _ _)

theorem clamp_of_mem {lo hi x : Int} (hl : lo ≤ x) (hh : x ≤ hi) : clamp lo hi x = x := by
  unfold clamp; omega

/-- A value in the fraction range survives its narrowing. -/
theorem toInt_ofInt_frac {x : Int} (hl : -8388608 ≤ x) (hh : x ≤ 8388607) :
    (BitVec.ofInt 24 x).toInt = x := by
  rw [BitVec.toInt_ofInt]
  exact Int.bmod_eq_of_le (by norm_num; omega) (by norm_num; omega)

/-- A value in the range of an output value survives its narrowing. -/
theorem toInt_ofInt_code {x : Int} (hl : -32768 ≤ x) (hh : x ≤ 32767) :
    (BitVec.ofInt 16 x).toInt = x := by
  rw [BitVec.toInt_ofInt]
  exact Int.bmod_eq_of_le (by norm_num; omega) (by norm_num; omega)

/-- The range of a fraction code (R41). -/
theorem frac_range (x : Frac) : -8388608 ≤ x.toInt ∧ x.toInt ≤ 8388607 := by
  have h1 := BitVec.le_toInt x
  have h2 := BitVec.toInt_lt (x := x)
  norm_num at h1 h2
  omega

/-- A saturated code is the exact one clamped to the fraction range (R43, R44). -/
theorem toInt_satFrac (x : Int) : (satFrac x).toInt = clamp fracMin fracMax x :=
  toInt_ofInt_frac le_clamp (clamp_le (by decide))

/-- An output value is the rounded code clamped to 16 bits (R145). -/
theorem toInt_outputValue (x : Frac) :
    (outputValue x).toInt = clamp (-32768) 32767 (roundHalfEven x.toInt 8) :=
  toInt_ofInt_code le_clamp (clamp_le (by decide))

theorem bump_le (top n : Nat) : bump top n ≤ top := min_le_left _ _

/-- A count below its top is raised by one. -/
theorem bump_of_lt {top n : Nat} (h : n < top) : bump top n = n + 1 := by unfold bump; omega

/-- A count at its top stays there. -/
theorem bump_top (top : Nat) : bump top top = top := by unfold bump; omega

/-- The two outcomes of a run's dip test (R21). -/
theorem voltageRun_iff (vmin : Nat) (re : Frac) :
    voltageRun vmin re = true ↔ (vmin : Int) ≤ re.toInt := by simp [voltageRun]

theorem trimLimit_pos (f : Freq) : 0 < trimLimit f := by cases f <;> decide

/-- The least period of a frequency is positive. -/
theorem nominalPeriod_margin (f : Freq) : trimLimit f + 64 < nominalPeriod f := by
  cases f <;> decide

/-- A period formed within the bounds is exact (R24, R25). -/
theorem periodOf_eq {f : Freq} {trim term : Int} (hl : -trimLimit f ≤ trim)
    (ht : term ≤ 64) : (periodOf f trim term : Int) = nominalPeriod f + trim - term := by
  have := nominalPeriod_margin f
  unfold periodOf
  omega

end Sys2Proof.Machine
end

