-- ==== Sys2Proof/Laws/Blocks.lean ====
section
/-! SUPPORT. What the operations of the sample store, the synchronizer, the plan ring, the streamer, the
peer table and the station controller can do, said once. -/

namespace Sys2Proof.Machine

open Sys2Proof

/-! ## Sample store -/

@[simp] theorem SampleStore.get_set (s : SampleStore) (i j : BankId) (b : Bank) :
    (s.set i b).get j = if j = i then b else s.get j := by cases i <;> cases j <;> rfl

/-- The first bank of a kind is of that kind. -/
theorem SampleStore.first_some {s : SampleStore} {p : BankState → Bool} {i : BankId}
    (h : s.first p = some i) : p (s.get i).state = true := by
  unfold SampleStore.first at h
  split at h
  · cases h; assumption
  · split at h
    · cases h; assumption
    · split at h
      · cases h; assumption
      · cases h

/-- No bank is of a kind that has no first. -/
theorem SampleStore.first_none {s : SampleStore} {p : BankState → Bool} (h : s.first p = none)
    (i : BankId) : p (s.get i).state = false := by
  unfold SampleStore.first at h
  split at h
  · cases h
  · split at h
    · cases h
    · split at h
      · cases h
      · cases i <;> simp_all [SampleStore.get]

/-- The only bank of a kind is the first of it. -/
theorem SampleStore.first_unique {s : SampleStore} {p : BankState → Bool} {i : BankId}
    (hi : p (s.get i).state = true) (h : ∀ j, p (s.get j).state = true → j = i) :
    s.first p = some i := by
  cases hf : s.first p with
  | none => simp [s.first_none hf i] at hi
  | some j => rw [h j (SampleStore.first_some hf)]

theorem BankState.isFilling_iff (b : BankState) : b.isFilling = true ↔ b = .filling := by
  cases b <;> simp [BankState.isFilling]

theorem BankState.isFree_iff (b : BankState) : b.isFree = true ↔ b = .free := by
  cases b <;> simp [BankState.isFree]

theorem BankState.isReady_iff (b : BankState) : b.isReady = true ↔ ∃ n, b = .ready n := by
  cases b <;> simp [BankState.isReady]

/-- A bank holds an interval where the cycle indices of its records say so (R12, R13). -/
theorem Bank.holds_iff {b : Bank} {n : Num} :
    b.Holds n ↔
      ∀ m < b.fill, (b.records[m]?.map fun r => r.index.toNat) = some (indexIn n m) := by
  simp [Bank.Holds]

/-- A bank with nothing in it holds any interval. -/
theorem Bank.holds_beginFill (b : Bank) (n : Num) : b.beginFill.Holds n :=
  fun m h => absurd h (Nat.not_lt_zero m)

@[simp] theorem Bank.write_state (b : Bank) (r : ScanRecord) : (b.write r).state = b.state := rfl
@[simp] theorem Bank.write_fill (b : Bank) (r : ScanRecord) : (b.write r).fill = b.fill + 1 := rfl

/-- What a write leaves at each place: the new record at the fill count, the old ones elsewhere (R13). -/
theorem Bank.write_records (b : Bank) (r : ScanRecord) (h : b.fill ≤ b.records.length) (m : Nat) :
    (b.write r).records[m]? = if m = b.fill then some r else b.records[m]? := by
  simp only [Bank.write]
  rcases Nat.lt_trichotomy m b.fill with hm | rfl | hm
  · rw [List.getElem?_append_left (by simp; omega)]
    simp [hm, Nat.ne_of_lt hm]
  · rw [List.getElem?_append_right (by simp)]
    simp [h]
  · rw [List.getElem?_append_right (by simp; omega)]
    simp only [List.length_take, Nat.min_eq_left h, Nat.ne_of_gt hm, if_false]
    obtain ⟨k, hk⟩ : ∃ k, m - b.fill = k + 1 := ⟨m - b.fill - 1, by omega⟩
    rw [hk, List.getElem?_cons_succ, List.getElem?_drop]
    congr 1
    omega

/-- A bank that holds an interval has a record at each place below its fill count. -/
theorem Bank.Holds.fill_le {b : Bank} {n : Num} (h : b.Holds n) : b.fill ≤ b.records.length := by
  rcases Nat.eq_zero_or_pos b.fill with h0 | h0
  · omega
  · obtain ⟨r, hr, -⟩ := h (b.fill - 1) (by omega)
    have := (List.getElem?_eq_some_iff.mp hr).1
    omega

/-- The record of the next place makes the bank hold one more (R13). -/
theorem Bank.Holds.write {b : Bank} {n : Num} {r : ScanRecord} (h : b.Holds n)
    (hr : r.index.toNat = indexIn n b.fill) : (b.write r).Holds n := by
  intro m hm
  rw [Bank.write_records b r h.fill_le]
  by_cases q : m = b.fill
  · exact ⟨r, by simp [q], q ▸ hr⟩
  · simpa [q] using h m (by simp at hm; omega)

/-! ## Synchronizer -/

/-- What a run's update keeps: the trim frequency. -/
@[simp] theorem Synchronizer.update_trimFreq (s : Synchronizer) (v : Setup) (re im : Frac) :
    (s.update v re im).trimFreq = s.trimFreq := by
  unfold Synchronizer.update Synchronizer.onVoltage Synchronizer.onDip
  split
  · cases s.lock <;> simp <;> (repeat' split) <;> rfl
  · cases s.lock <;> simp
    split <;> rfl

/-- The trim and the period after an update, by the dip test (R21 to R24). -/
theorem Synchronizer.update_cases (s : Synchronizer) (v : Setup) (re im : Frac) :
    ((v.vmin : Int) ≤ re.toInt
        ∧ (s.update v re im).trim = newTrim v.freq s.trim (phaseError re im)
        ∧ (s.update v re im).period
          = periodOf v.freq (newTrim v.freq s.trim (phaseError re im))
              (phaseTerm (phaseError re im))
        ∧ (s.update v re im).lock = (s.onVoltage (phaseError re im).natAbs).lock)
      ∨ (re.toInt < (v.vmin : Int)
        ∧ (s.update v re im).trim = s.trim
        ∧ (s.update v re im).period = periodOf v.freq s.trim 0
        ∧ (s.update v re im).lock = s.onDip.lock) := by
  by_cases h : (v.vmin : Int) ≤ re.toInt
  · left; simp [Synchronizer.update, voltageRun, h]
  · right
    have hd : s.onDip.trim = s.trim := by
      unfold Synchronizer.onDip
      cases s.lock <;> simp
      split <;> rfl
    simp [Synchronizer.update, voltageRun, h, hd]
    omega

/-! ## Plan ring and streamer -/

@[simp] theorem PlanRing.slot_setSlot (r : PlanRing) (i j : Fin 4) (x : Slot) :
    (r.setSlot i x).slot j = if j = i then x else r.slot j := by
  fin_cases i <;> fin_cases j <;> rfl

@[simp] theorem PlanRing.slot_mapSlots (r : PlanRing) (f : Slot → Slot) (j : Fin 4) :
    (r.mapSlots f).slot j = f (r.slot j) := by fin_cases j <;> rfl

@[simp] theorem PlanRing.setSlot_writeIndex (r : PlanRing) (i : Fin 4) (x : Slot) :
    (r.setSlot i x).writeIndex = r.writeIndex := by fin_cases i <;> rfl

@[simp] theorem PlanRing.setSlot_latest (r : PlanRing) (i : Fin 4) (x : Slot) :
    (r.setSlot i x).latest = r.latest := by fin_cases i <;> rfl

/-- Two rings with the same slots, index and latest write are the same. -/
theorem PlanRing.ext_slots {r q : PlanRing} (h : ∀ j, r.slot j = q.slot j)
    (hw : r.writeIndex = q.writeIndex) (hl : r.latest = q.latest) : r = q := by
  have h0 := h 0; have h1 := h 1; have h2 := h 2; have h3 := h 3
  cases r; cases q
  simp_all [PlanRing.slot]

theorem Slot.pendingFor_eq_some {x : Slot} {n : BitVec 16} {p : Plan} :
    x.pendingFor n = some p ↔ x = .pending p ∧ p.target = n := by
  cases x with
  | empty => simp [Slot.pendingFor]
  | playing q => simp [Slot.pendingFor]
  | pending q =>
    simp only [Slot.pendingFor, Option.ite_none_right_eq_some, Option.some.injEq,
      Slot.pending.injEq]
    constructor
    · rintro ⟨h, rfl⟩; exact ⟨rfl, h⟩
    · rintro ⟨rfl, h⟩; exact ⟨h, rfl⟩

/-- The slot a boundary finds is PENDING for its interval. -/
theorem PlanRing.find_some {r : PlanRing} {n : BitVec 16} {i : Fin 4} {p : Plan}
    (h : r.find n = some (i, p)) : r.slot i = .pending p ∧ p.target = n := by
  unfold PlanRing.find at h
  split at h
  · cases h; exact Slot.pendingFor_eq_some.mp ‹_›
  · split at h
    · cases h; exact Slot.pendingFor_eq_some.mp ‹_›
    · split at h
      · cases h; exact Slot.pendingFor_eq_some.mp ‹_›
      · split at h
        · cases h; exact Slot.pendingFor_eq_some.mp ‹_›
        · cases h

/-- A boundary that finds no slot has none PENDING for its interval. -/
theorem PlanRing.find_none {r : PlanRing} {n : BitVec 16} (h : r.find n = none) (i : Fin 4)
    (p : Plan) : r.slot i = .pending p → p.target ≠ n := by
  intro hs ht
  have hp := Slot.pendingFor_eq_some.mpr ⟨hs, ht⟩
  unfold PlanRing.find at h
  split at h
  · cases h
  · split at h
    · cases h
    · split at h
      · cases h
      · split at h
        · cases h
        · fin_cases i <;> simp_all [PlanRing.slot]

/-- What a boundary can do: promote a NORMAL or a FADE slot, discard a FADE slot, bridge or come to rest
(R136 to R138). -/
theorem boundary_cases (n : BitVec 16) (r : PlanRing) (s : Streamer) :
    (∃ i p, r.find n = some (i, p) ∧ p.mode = .normal
        ∧ boundary n r s = (r.promote i p, { s with play := s.play.onNormal p.triple }))
      ∨ (∃ i p, r.find n = some (i, p) ∧ p.mode = .fade ∧ s.play.carrying = true
        ∧ boundary n r s = (r.promote i p, { s with play := .fading p.triple }))
      ∨ (∃ i p, r.find n = some (i, p) ∧ p.mode = .fade ∧ s.play.carrying = false
        ∧ boundary n r s = (r.rest.discard i, { s with play := .idle }))
      ∨ (r.find n = none ∧ s.play.carrying = true
        ∧ boundary n r s
          = (r, { play := s.play.onNone
                  underruns :=
                    if s.play.underrunsNext then bump 255 s.underruns else s.underruns }))
      ∨ (r.find n = none ∧ s.play.carrying = false
        ∧ boundary n r s = (r.rest, { s with play := .idle })) := by
  unfold boundary
  cases hf : r.find n with
  | none =>
    cases hp : s.play <;>
      simp [Play.carrying, Play.onNone, Play.underrunsNext]
  | some ip =>
    obtain ⟨i, p⟩ := ip
    cases hm : p.mode
    · exact .inl ⟨i, p, rfl, hm, by simp [hm]⟩
    · cases hp : s.play <;> simp [Play.carrying, Play.onFade, hm]

/-- What the plan-slot write can do: nothing, or one write of a FADE of the latest triple or of a NORMAL
limited triple (R87, R88). -/
theorem planWrite_cases (before after : StationState) (counted : Bool) (k : BitVec 16)
    (limited : Option Triple) (r : PlanRing) :
    (before = .active ∧ after ≠ .active ∧ ∃ t, r.latest = some t
        ∧ planWrite before after counted k limited r = r.write (k + 2) .fade t)
      ∨ (after = .active ∧ counted = true ∧ ∃ t, limited = some t
        ∧ planWrite before after counted k limited r = r.write (k + 2) .normal t)
      ∨ planWrite before after counted k limited r = r := by
  unfold planWrite
  split
  · rename_i h
    cases hl : r.latest
    · exact .inr (.inr rfl)
    · exact .inl ⟨h.1, h.2, _, rfl, rfl⟩
  · split
    · rename_i h
      cases hl : limited
      · exact .inr (.inr rfl)
      · exact .inr (.inl ⟨h.1, h.2, _, rfl, rfl⟩)
    · exact .inr (.inr rfl)

/-! ## Station controller -/

/-- What an evaluation can do: stay, or move from LISTEN to ACTIVE, from ACTIVE to HOLD, from HOLD to ACTIVE;
a move clears the announced flag, and H_told, the setup values, the QUENCH sample and the wait never change
(R168 to R171). -/
theorem Station.evaluate_cases (st : Station) (v : Setup) (lock : Lock) (c : Causes) :
    ((st.evaluate v lock c).told = st.told ∧ (st.evaluate v lock c).setup = st.setup
        ∧ (st.evaluate v lock c).quench = st.quench
        ∧ (st.evaluate v lock c).waiting = st.waiting)
      ∧ (((st.evaluate v lock c).state = st.state
            ∧ (st.evaluate v lock c).announced = st.announced)
        ∨ ((st.state = .listen ∧ (st.evaluate v lock c).state = .active
              ∨ st.state = .active ∧ (st.evaluate v lock c).state = .hold
              ∨ st.state = .hold ∧ (st.evaluate v lock c).state = .active)
          ∧ (st.evaluate v lock c).announced = false)) := by
  cases hs : st.state
  · simp [Station.evaluate, hs]
  · simp [Station.evaluate, hs]
  · simp only [Station.evaluate, hs, Station.evaluateListen]
    split <;> simp
  · simp only [Station.evaluate, hs, Station.evaluateActive]
    split <;> simp
  · simp only [Station.evaluate, hs, Station.evaluateHold]
    (repeat' split) <;> simp
  · simp [Station.evaluate, hs]

/-! ## Peer table -/

/-- The entry of an id after a write. -/
theorem entryOf_writeEntry (e : PeerEntry) (l : List PeerEntry) (j : Fin 8) :
    entryOf (writeEntry e l) j = if j = e.id then some e else entryOf l j := by
  induction l with
  | nil =>
    by_cases q : j = e.id
    · simp [writeEntry, entryOf, q]
    · simp [writeEntry, entryOf, q, Ne.symm q]
  | cons x xs ih =>
    simp only [entryOf] at *
    unfold writeEntry
    by_cases q : j = e.id
    · subst q
      split
      · simp
      · split
        · simp
        · rename_i h
          rw [List.find?_cons, ih]
          simp [Ne.symm h]
    · split
      · simp [Ne.symm q]
      · split
        · rename_i h
          simp [Ne.symm q, ← h]
        · rw [List.find?_cons, List.find?_cons, ih]
          simp [q]

/-- A write adds no entry but its own. -/
theorem mem_writeEntry {e a : PeerEntry} {l : List PeerEntry} (h : a ∈ writeEntry e l) :
    a = e ∨ a ∈ l := by
  induction l with
  | nil => exact .inl (by simpa [writeEntry] using h)
  | cons x xs ih =>
    unfold writeEntry at h
    split at h
    · simpa using h
    · split at h
      · rcases List.mem_cons.mp h with rfl | h
        · exact .inl rfl
        · exact .inr (List.mem_cons_of_mem _ h)
      · rcases List.mem_cons.mp h with rfl | h
        · exact .inr List.mem_cons_self
        · exact (ih h).imp_right (List.mem_cons_of_mem _)

end Sys2Proof.Machine
end

