-- ==== Sys2Proof/Laws/Commands.lean ====
section
/-! SUPPORT. What each command can do, said once: a lemma per command gives every next state it answers and
the conditions of each. -/

namespace Sys2Proof.Machine

open Sys2Proof

variable {s t : State}

/-- Two next states are the same outcome exactly where they are the same state. -/
@[simp] theorem next_inj {a b : State} :
    (Host.Outcome.next a : Result) = .next b ↔ a = b := by
  constructor
  · intro h; injection h
  · rintro rfl; rfl

/-- A step idles on an empty queue, or runs the command at its front with the rest. -/
theorem step_cases (h : step s = .next t) :
    (s.pending = [] ∧ t = s)
      ∨ ∃ c rest, s.pending = c :: rest ∧ exec c { s with pending := rest } = .next t := by
  unfold step at h
  split at h
  · exact .inl ⟨‹_›, by simpa using h.symm⟩
  · exact .inr ⟨_, _, ‹_›, h⟩

/-- What every command keeps, and what does not speak of the queue, every step keeps. -/
theorem kept_of_exec {P : State → Prop} (queue : ∀ s q, P s → P { s with pending := q })
    (kept : ∀ c s t, P s → exec c s = .next t → P t) {s t : State} (hs : P s)
    (h : step s = .next t) : P t := by
  obtain ⟨-, rfl⟩ | ⟨c, rest, -, h⟩ := step_cases h
  · exact hs
  · exact kept c _ _ (queue s rest hs) h

theorem powerOn_next (h : exec .powerOn s = .next t) :
    t = { State.reset with pending := s.pending } := by
  simpa [exec, execPowerOn] using h.symm

theorem lossOfSupplyGood_next (h : exec .lossOfSupplyGood s = .next t) : t = s.losePower := by
  simpa [exec, execLossOfSupplyGood] using h.symm

/-- The three ends of the power-on wait. -/
theorem endWait_cases (s : State) (high : Bool) :
    (s.pins.resetAsserted = true
        ∧ s.endWait high = { s with station := { s.station with waiting := false } })
      ∨ (s.pins.resetAsserted = false ∧ high = true
        ∧ s.endWait high
          = { s with
              station := { s.station with waiting := false, state := .setup }
              pins := { s.pins with resetN := true, spiSelect := true, spiSent := setupRequest } })
      ∨ (s.pins.resetAsserted = false ∧ high = false
        ∧ s.endWait high
          = { s with
              station := { s.station with waiting := false }
              pins := { s.pins with resetN := false } }) := by
  unfold State.endWait State.enterSetup
  cases hr : s.pins.resetAsserted <;> cases high <;> simp [hr]

theorem endOfPowerOnWait_next {high : Bool} (h : exec (.endOfPowerOnWait high) s = .next t) :
    (s.station.waiting = true ∧ s.station.state = .off ∧ t = s.endWait high) ∨ t = s := by
  simp only [exec, execEndOfPowerOnWait, next_inj] at h
  split at h <;> simp_all

theorem resetLineAssertion_next (h : exec .resetLineAssertion s = .next t) :
    (s.pins.supplyGood = true ∧ t = s.assertReset) ∨ t = s := by
  simp only [exec, execResetLineAssertion, next_inj] at h
  split at h <;> simp_all

theorem resetLineRelease_next (h : exec .resetLineRelease s = .next t) :
    (s.pins.supplyGood = true ∧ s.pins.resetAsserted = true ∧ s.station.state = .off
        ∧ ((s.station.waiting = true
            ∧ t = { s with pins := { s.pins with resetN := true, resetAsserted := false } })
          ∨ (s.station.waiting = false
            ∧ t = { s with
                station := { s.station with state := .setup }
                pins :=
                  { s.pins with
                    resetN := true, resetAsserted := false, spiSelect := true
                    spiSent := setupRequest } })))
      ∨ t = s := by
  simp only [exec, execResetLineRelease, next_inj, State.releaseReset, State.enterSetup] at h
  split at h
  · cases hw : s.station.waiting <;> simp_all
  · exact .inr h.symm

theorem resetNReturnsHigh_next (h : exec .resetNReturnsHigh s = .next t) :
    (s.pins.supplyGood = true ∧ s.pins.resetAsserted = false ∧ s.pins.resetN = false
        ∧ s.station.waiting = false ∧ s.station.state = .off
        ∧ t = { s with
            station := { s.station with state := .setup }
            pins := { s.pins with resetN := true, spiSelect := true, spiSent := setupRequest } })
      ∨ t = s := by
  simp only [exec, execResetNReturnsHigh, next_inj, State.enterSetup] at h
  split at h <;> simp_all

theorem setupReadCompletion_next {image : Vector Byte 32}
    (h : exec (.setupReadCompletion image) s = .next t) :
    (s.station.state = .setup ∧ ∃ v, readImage image = some v
        ∧ t = State.enterListen { s with pins := { s.pins with spiSelect := false, spiSent := [] } } v)
      ∨ (s.station.state = .setup ∧ readImage image = none
        ∧ t = State.enterFault { s with pins := { s.pins with spiSelect := false, spiSent := [] } })
      ∨ t = s := by
  simp only [exec, execSetupReadCompletion, State.finishRead, next_inj] at h
  split at h
  · split at h <;> simp_all
  · simp_all

theorem sampleTimerExpiry_next {codes : Channels Code}
    (h : exec (.sampleTimerExpiry codes) s = .next t) :
    (s.acq.running = true ∧ s.acq.scan = none ∧ t = s.expire codes)
      ∨ (s.acq.running = false ∧ t = s) := by
  simp only [exec, execSampleTimerExpiry] at h
  split at h
  · split at h <;> simp_all
  · simp_all

theorem moduleLinkSilence_next (h : exec .moduleLinkSilence s = .next t) :
    (s.link.running = true ∧ s.acq.running = true ∧ s.acq.scan = none ∧ s.link.declares = true
        ∧ t = State.stopStreamer { s with link := s.link.declareLost })
      ∨ t = s := by
  simp only [exec, execModuleLinkSilence, next_inj] at h
  split at h <;> simp_all [Acquisition.atExpiry]

/-- The three kinds of scan completion, by interval position. -/
theorem afterScan_cases (s : State) (v : Setup) (index : BitVec 6) (quench : Bool) :
    (intervalPosition index = 19
        ∧ s.afterScan v index quench = { s with line := s.line.deadline })
      ∨ (intervalPosition index = 31 ∧ s.afterScan v index quench = s.windowClose v quench)
      ∨ (intervalPosition index ≠ 19 ∧ intervalPosition index ≠ 31
        ∧ s.afterScan v index quench = s) := by
  unfold State.afterScan
  split
  · exact .inl ⟨‹_›, rfl⟩
  · split
    · exact .inr (.inl ⟨‹_›, rfl⟩)
    · exact .inr (.inr ⟨‹_›, ‹_›, rfl⟩)

theorem scanCompletion_next {check : Code} {quench : Bool}
    (h : exec (.scanCompletion check quench) s = .next t) :
    (∃ sc v, s.acq.scan = some sc ∧ s.station.setup = some v
        ∧ (intervalPosition sc.index = 31 →
            s.engine.run = none ∧ s.peers.work.copying = false)
        ∧ t = (s.recordScan sc check).afterScan v sc.index quench)
      ∨ t = s := by
  simp only [exec, execScanCompletion] at h
  split at h
  · rename_i sc v hsc hv
    refine .inl ⟨sc, v, hsc, hv, ?_⟩
    split at h
    · cases h
    · split at h
      · cases h
      · rename_i h1 h2
        refine ⟨fun hp => ?_, (next_inj.mp h).symm⟩
        simp only [hp, decide_true, Bool.true_and, Bool.not_eq_true] at h1 h2
        exact ⟨by simpa using h1, h2⟩
  · exact .inr (next_inj.mp h).symm

theorem viewCopyCompletion_next (h : exec .viewCopyCompletion s = .next t) :
    (∃ w, s.peers.work = .copy w
        ∧ t = State.startMerge { s with peers := { s.peers with view := w, work := .idle } })
      ∨ t = s := by
  simp only [exec, execViewCopyCompletion, next_inj] at h
  split at h <;> simp_all

/-- A run completion acts in full in LISTEN, ACTIVE and HOLD, in part in FAULT, and finds nothing to do
elsewhere (R39, R173). -/
theorem runCompletion_next (h : exec .runCompletion s = .next t) :
    (∃ r v, s.engine.run = some r ∧ s.station.setup = some v ∧ s.peers.work.copying = false
        ∧ ((s.station.state.live = true ∧ s.line.slot = none ∧ t = s.completeRun v r)
          ∨ (s.station.state = .fault ∧ t = s.completeRunInFault v r)
          ∨ (s.station.state.live = false ∧ s.station.state ≠ .fault ∧ t = s)))
      ∨ ((s.engine.run = none ∨ s.station.setup = none) ∧ t = s) := by
  simp only [exec, execRunCompletion] at h
  split at h
  · rename_i r v hr hv
    refine .inl ⟨r, v, hr, hv, ?_⟩
    split at h
    · cases h
    · refine ⟨by simp_all, ?_⟩
      split at h
      · split at h
        · cases h
        · simp_all
      · split at h <;> simp_all
  · rename_i hn
    refine .inr ⟨?_, (next_inj.mp h).symm⟩
    rcases hr : s.engine.run with _ | r
    · exact .inl rfl
    · rcases hv : s.station.setup with _ | v
      · exact .inr rfl
      · exact (hn r v hr hv).elim

theorem backoffExpiry_next (h : exec .backoffExpiry s = .next t) :
    (s.station.state.live = true ∧ s.line.contention = .backoff
        ∧ t = { s with line := { s.line with contention := .check } })
      ∨ t = s := by
  simp only [exec, execBackoffExpiry, next_inj] at h
  split at h <;> simp_all

theorem clearCheckPass_next (h : exec .clearCheckPass s = .next t) :
    (s.station.state.live = true ∧ s.line.contention = .check ∧ s.line.busy = false
        ∧ t = { s with
            line := { s.line with contention := .sending, rx := .off, busy := true } })
      ∨ t = s := by
  simp only [exec, execClearCheckPass, next_inj] at h
  split at h <;> simp_all

theorem lineBusy_next (h : exec .lineBusy s = .next t) :
    (s.station.state.live = true ∧ t = { s with line := s.line.goBusy }) ∨ t = s := by
  simp only [exec, execLineBusy, next_inj] at h
  split at h <;> simp_all

theorem lineIdle_next (h : exec .lineIdle s = .next t) :
    (s.station.state.live = true ∧ t = { s with line := s.line.goIdle }) ∨ t = s := by
  simp only [exec, execLineIdle, next_inj] at h
  split at h <;> simp_all

theorem collision_next (h : exec .collision s = .next t) :
    (s.station.state.live = true ∧ s.line.contention = .sending
        ∧ t = { s with line := s.line.collide })
      ∨ t = s := by
  simp only [exec, execCollision, next_inj] at h
  split at h <;> simp_all

theorem transmissionCompletion_next (h : exec .transmissionCompletion s = .next t) :
    (∃ f, s.station.state.live = true ∧ s.line.contention = .sending ∧ s.line.slot = some f
        ∧ t = s.transmitted f)
      ∨ t = s := by
  simp only [exec, execTransmissionCompletion, next_inj] at h
  split at h
  · split at h <;> simp_all
  · simp_all

theorem startDelimiter_next {n : Nat} (h : exec (.startDelimiter n) s = .next t) :
    (s.station.state.live = true ∧ s.line.rx = .hunting
        ∧ ((16 ≤ n ∧ t = { s with line := s.line.goBusy.delimiter })
          ∨ (n < 16 ∧ t = { s with line := s.line.goBusy })))
      ∨ t = s := by
  simp only [exec, execStartDelimiter, next_inj] at h
  split at h
  · by_cases hn : 16 ≤ n <;> simp_all [LineController.delimiterByte, Config.preambleBits]
  · simp_all

theorem lengthByteCheck_next {len : Byte} (h : exec (.lengthByteCheck len) s = .next t) :
    (∃ i, s.station.state.live = true ∧ s.line.rx = .length i
        ∧ t = { s with line := s.line.lengthChecked i len })
      ∨ t = s := by
  simp only [exec, execLengthByteCheck, next_inj] at h
  split at h
  · split at h <;> simp_all
  · simp_all

theorem frameReceptionCompletion_next {body : Vector Byte 33} {crc : BitVec 16}
    (h : exec (.frameReceptionCompletion body crc) s = .next t) :
    (∃ v i, s.station.setup = some v ∧ s.line.rx = .body i ∧ s.station.state.live = true
        ∧ t = State.startMerge
            { s with line := s.line.received i v.group body crc s.acq.interval })
      ∨ t = s := by
  simp only [exec, execFrameReceptionCompletion, next_inj] at h
  split at h
  · split at h <;> simp_all
  · simp_all

theorem mergeCompletion_next (h : exec .mergeCompletion s = .next t) :
    (∃ i v f, s.peers.work = .merge i ∧ s.station.setup = some v ∧ s.line.bank i = .merging f
        ∧ t = s.finishMerge v i f)
      ∨ t = s := by
  simp only [exec, execMergeCompletion, next_inj] at h
  split at h
  · split at h <;> simp_all
  · simp_all

/-- The three ends of a merge of a frame that names a state; a frame that names none is only freed. -/
theorem finishMerge_cases (s : State) (v : Setup) (i : RxId) (f : Received) :
    (bodyId f.body ≠ v.id ∧ (∃ e, frameEntry f = some e ∧ s.finishMerge v i f = s.mergeEntry i e))
      ∨ (bodyId f.body ≠ v.id ∧ frameEntry f = none
        ∧ s.finishMerge v i f
          = State.startMerge
              { s with peers := { s.peers with work := .idle }, line := s.line.endMerge i })
      ∨ (bodyId f.body = v.id ∧ bodySerial f.body ≤ v.serial
        ∧ s.finishMerge v i f
          = State.enterFault
              { s with peers := { s.peers with work := .idle }, line := s.line.endMerge i })
      ∨ (bodyId f.body = v.id ∧ ¬ bodySerial f.body ≤ v.serial
        ∧ s.finishMerge v i f
          = State.startMerge
              { s with
                peers := { s.peers with work := .idle, conflict := 16 }
                line := s.line.endMerge i }) := by
  unfold State.finishMerge State.mergeConflict
  split
  · split <;> simp_all
  · split <;> simp_all

theorem statusArrival_next {bits : Nat} {word : BitVec 24}
    (h : exec (.statusArrival bits word) s = .next t) :
    (s.link.running = true ∧ s.link.expiryDue = false ∧ statusGood s.link.word bits word = true
        ∧ t = s.takeStatus word)
      ∨ t = s := by
  simp only [exec, execStatusArrival, next_inj] at h
  split at h <;> simp_all [ModuleLink.takes]

end Sys2Proof.Machine
end

