-- ==== Sys2Proof/Laws/Line.lean ====
section
/-! SUPPORT. What the operations of the line controller can do, said once, and the fields they leave alone. -/

namespace Sys2Proof.Machine

open Sys2Proof

/-! Frames: true by rfl. -/
@[simp] theorem LineController.enterBackoff_slot (l : LineController) :
    (l.enterBackoff).slot = l.slot := rfl
@[simp] theorem LineController.enterBackoff_nb (l : LineController) :
    (l.enterBackoff).nb = l.nb := rfl
@[simp] theorem LineController.enterBackoff_be (l : LineController) :
    (l.enterBackoff).be = l.be := rfl
@[simp] theorem LineController.enterBackoff_mark (l : LineController) :
    (l.enterBackoff).mark = l.mark := rfl
@[simp] theorem LineController.enterBackoff_busy (l : LineController) :
    (l.enterBackoff).busy = l.busy := rfl
@[simp] theorem LineController.enterBackoff_rx (l : LineController) :
    (l.enterBackoff).rx = l.rx := rfl
@[simp] theorem LineController.enterBackoff_bankA (l : LineController) :
    (l.enterBackoff).bankA = l.bankA := rfl
@[simp] theorem LineController.enterBackoff_bankB (l : LineController) :
    (l.enterBackoff).bankB = l.bankB := rfl
@[simp] theorem LineController.enterBackoff_lastClaimed (l : LineController) :
    (l.enterBackoff).lastClaimed = l.lastClaimed := rfl
@[simp] theorem LineController.enterBackoff_order (l : LineController) :
    (l.enterBackoff).order = l.order := rfl
@[simp] theorem LineController.enterBackoff_badFrames (l : LineController) :
    (l.enterBackoff).badFrames = l.badFrames := rfl
@[simp] theorem LineController.enterBackoff_sendMissed (l : LineController) :
    (l.enterBackoff).sendMissed = l.sendMissed := rfl
@[simp] theorem LineController.enterBackoff_rxOverruns (l : LineController) :
    (l.enterBackoff).rxOverruns = l.rxOverruns := rfl
@[simp] theorem LineController.drop_nb (l : LineController) :
    (l.drop).nb = l.nb := rfl
@[simp] theorem LineController.drop_be (l : LineController) :
    (l.drop).be = l.be := rfl
@[simp] theorem LineController.drop_mark (l : LineController) :
    (l.drop).mark = l.mark := rfl
@[simp] theorem LineController.drop_wait (l : LineController) :
    (l.drop).wait = l.wait := rfl
@[simp] theorem LineController.drop_lfsr (l : LineController) :
    (l.drop).lfsr = l.lfsr := rfl
@[simp] theorem LineController.drop_busy (l : LineController) :
    (l.drop).busy = l.busy := rfl
@[simp] theorem LineController.drop_rx (l : LineController) :
    (l.drop).rx = l.rx := rfl
@[simp] theorem LineController.drop_bankA (l : LineController) :
    (l.drop).bankA = l.bankA := rfl
@[simp] theorem LineController.drop_bankB (l : LineController) :
    (l.drop).bankB = l.bankB := rfl
@[simp] theorem LineController.drop_lastClaimed (l : LineController) :
    (l.drop).lastClaimed = l.lastClaimed := rfl
@[simp] theorem LineController.drop_order (l : LineController) :
    (l.drop).order = l.order := rfl
@[simp] theorem LineController.drop_badFrames (l : LineController) :
    (l.drop).badFrames = l.badFrames := rfl
@[simp] theorem LineController.drop_rxOverruns (l : LineController) :
    (l.drop).rxOverruns = l.rxOverruns := rfl
@[simp] theorem LineController.countFailure_contention (l : LineController) :
    (l.countFailure).contention = l.contention := rfl
@[simp] theorem LineController.countFailure_slot (l : LineController) :
    (l.countFailure).slot = l.slot := rfl
@[simp] theorem LineController.countFailure_mark (l : LineController) :
    (l.countFailure).mark = l.mark := rfl
@[simp] theorem LineController.countFailure_wait (l : LineController) :
    (l.countFailure).wait = l.wait := rfl
@[simp] theorem LineController.countFailure_lfsr (l : LineController) :
    (l.countFailure).lfsr = l.lfsr := rfl
@[simp] theorem LineController.countFailure_busy (l : LineController) :
    (l.countFailure).busy = l.busy := rfl
@[simp] theorem LineController.countFailure_rx (l : LineController) :
    (l.countFailure).rx = l.rx := rfl
@[simp] theorem LineController.countFailure_bankA (l : LineController) :
    (l.countFailure).bankA = l.bankA := rfl
@[simp] theorem LineController.countFailure_bankB (l : LineController) :
    (l.countFailure).bankB = l.bankB := rfl
@[simp] theorem LineController.countFailure_lastClaimed (l : LineController) :
    (l.countFailure).lastClaimed = l.lastClaimed := rfl
@[simp] theorem LineController.countFailure_order (l : LineController) :
    (l.countFailure).order = l.order := rfl
@[simp] theorem LineController.countFailure_badFrames (l : LineController) :
    (l.countFailure).badFrames = l.badFrames := rfl
@[simp] theorem LineController.countFailure_sendMissed (l : LineController) :
    (l.countFailure).sendMissed = l.sendMissed := rfl
@[simp] theorem LineController.countFailure_rxOverruns (l : LineController) :
    (l.countFailure).rxOverruns = l.rxOverruns := rfl

/-! A bank replaced. -/

@[simp] theorem LineController.setBank_contention (l : LineController) (i : RxId) (b : RxBank) :
    (l.setBank i b).contention = l.contention := by cases i <;> rfl
@[simp] theorem LineController.setBank_slot (l : LineController) (i : RxId) (b : RxBank) :
    (l.setBank i b).slot = l.slot := by cases i <;> rfl
@[simp] theorem LineController.setBank_nb (l : LineController) (i : RxId) (b : RxBank) :
    (l.setBank i b).nb = l.nb := by cases i <;> rfl
@[simp] theorem LineController.setBank_be (l : LineController) (i : RxId) (b : RxBank) :
    (l.setBank i b).be = l.be := by cases i <;> rfl
@[simp] theorem LineController.setBank_mark (l : LineController) (i : RxId) (b : RxBank) :
    (l.setBank i b).mark = l.mark := by cases i <;> rfl
@[simp] theorem LineController.setBank_wait (l : LineController) (i : RxId) (b : RxBank) :
    (l.setBank i b).wait = l.wait := by cases i <;> rfl
@[simp] theorem LineController.setBank_lfsr (l : LineController) (i : RxId) (b : RxBank) :
    (l.setBank i b).lfsr = l.lfsr := by cases i <;> rfl
@[simp] theorem LineController.setBank_busy (l : LineController) (i : RxId) (b : RxBank) :
    (l.setBank i b).busy = l.busy := by cases i <;> rfl
@[simp] theorem LineController.setBank_rx (l : LineController) (i : RxId) (b : RxBank) :
    (l.setBank i b).rx = l.rx := by cases i <;> rfl
@[simp] theorem LineController.setBank_lastClaimed (l : LineController) (i : RxId) (b : RxBank) :
    (l.setBank i b).lastClaimed = l.lastClaimed := by cases i <;> rfl
@[simp] theorem LineController.setBank_order (l : LineController) (i : RxId) (b : RxBank) :
    (l.setBank i b).order = l.order := by cases i <;> rfl
@[simp] theorem LineController.setBank_badFrames (l : LineController) (i : RxId) (b : RxBank) :
    (l.setBank i b).badFrames = l.badFrames := by cases i <;> rfl
@[simp] theorem LineController.setBank_sendMissed (l : LineController) (i : RxId) (b : RxBank) :
    (l.setBank i b).sendMissed = l.sendMissed := by cases i <;> rfl
@[simp] theorem LineController.setBank_rxOverruns (l : LineController) (i : RxId) (b : RxBank) :
    (l.setBank i b).rxOverruns = l.rxOverruns := by cases i <;> rfl

@[simp] theorem LineController.bank_setBank (l : LineController) (i j : RxId) (b : RxBank) :
    (l.setBank i b).bank j = if j = i then b else l.bank j := by cases i <;> cases j <;> rfl

/-- A controller with the same two banks has the same bank under every name. -/
theorem LineController.bank_congr {l m : LineController} (ha : l.bankA = m.bankA)
    (hb : l.bankB = m.bankB) (i : RxId) : l.bank i = m.bank i := by cases i <;> assumption

@[simp] theorem RxId.other_ne (i : RxId) : i.other ≠ i := by cases i <;> decide

theorem RxId.eq_or_other (i j : RxId) : j = i ∨ j = i.other := by cases i <;> cases j <;> decide

/-! Case laws. -/

/-- Entry to BACKOFF: a draw of 0 stands in CHECK, any other waits 1 to 2^BE - 1 units (R115). -/
theorem LineController.enterBackoff_cases (l : LineController) :
    (l.enterBackoff.contention = .check ∧ l.enterBackoff.wait = 0)
      ∨ (l.enterBackoff.contention = .backoff ∧ 0 < l.enterBackoff.wait
        ∧ l.enterBackoff.wait < 2 ^ l.be) := by
  have hlt : drawValue (lfsrStep l.lfsr) l.be < 2 ^ l.be := Nat.mod_lt _ (by positivity)
  by_cases h : drawValue (lfsrStep l.lfsr) l.be = 0
  · left; simp [LineController.enterBackoff, h]
  · right; simpa [LineController.enterBackoff, h] using ⟨Nat.pos_of_ne_zero h, hlt⟩

@[simp] theorem LineController.enterBackoff_lfsr (l : LineController) :
    l.enterBackoff.lfsr = lfsrStep l.lfsr := rfl

@[simp] theorem LineController.drop_slot (l : LineController) : l.drop.slot = none := rfl
@[simp] theorem LineController.drop_contention (l : LineController) :
    l.drop.contention = .quiet := rfl
@[simp] theorem LineController.drop_sendMissed (l : LineController) :
    l.drop.sendMissed = bump 255 l.sendMissed := rfl
@[simp] theorem LineController.countFailure_nb (l : LineController) :
    l.countFailure.nb = l.nb + 1 := rfl
@[simp] theorem LineController.countFailure_be (l : LineController) :
    l.countFailure.be = bump 5 l.be := rfl

/-- The byte 0x9E is a start delimiter after 16 bits of preamble or more, and light on the line after fewer
(R178). -/
theorem LineController.delimiterByte_cases (l : LineController) (n : Nat) :
    (16 ≤ n ∧ l.delimiterByte n = l.goBusy.delimiter)
      ∨ (n < 16 ∧ l.delimiterByte n = l.goBusy) := by
  unfold LineController.delimiterByte Config.preambleBits
  split
  · exact .inl ⟨‹_›, rfl⟩
  · exact .inr ⟨by omega, rfl⟩

/-- A failed attempt drops the frame or draws again (R117, R120). -/
theorem LineController.checkFailed_cases (l : LineController) :
    (4 < l.nb + 1 ∧ l.checkFailed = l.countFailure.drop)
      ∨ (l.nb + 1 ≤ 4 ∧ l.checkFailed = l.countFailure.enterBackoff) := by
  unfold LineController.checkFailed
  by_cases h : 4 < l.countFailure.nb
  · exact .inl ⟨h, by simp only [if_pos h]⟩
  · exact .inr ⟨Nat.le_of_not_lt h, by simp only [if_neg h]⟩

/-- A collision drops the frame, BUSY or LATE, or draws again (R120). -/
theorem LineController.collide_cases (l : LineController) :
    ((4 < l.nb + 1 ∨ l.mark = true) ∧ l.collide = l.countFailure.drop)
      ∨ (l.nb + 1 ≤ 4 ∧ l.mark = false ∧ l.collide = l.countFailure.enterBackoff) := by
  unfold LineController.collide
  by_cases h : 4 < l.countFailure.nb
  · exact .inl ⟨.inl h, by simp only [if_pos h]⟩
  · cases hm : l.mark
    · exact .inr ⟨Nat.le_of_not_lt h, rfl, by
        simp only [if_neg h, LineController.countFailure_mark, hm, Bool.false_eq_true, if_false]⟩
    · exact .inl ⟨.inr rfl, by simp only [LineController.countFailure_mark, hm, if_true, ite_self]⟩

/-- The send deadline drops a frame that waits and marks one on the line (R121). -/
theorem LineController.deadline_cases (l : LineController) :
    (l.contention = .quiet ∧ l.deadline = l)
      ∨ ((l.contention = .backoff ∨ l.contention = .check) ∧ l.deadline = l.drop)
      ∨ (l.contention = .sending ∧ l.deadline = { l with mark := true }) := by
  unfold LineController.deadline
  split <;> simp_all

/-- The line goes busy: carrier sense alone changes, unless a clear check on an idle line fails (R116,
R117). -/
theorem LineController.goBusy_cases (l : LineController) :
    (l.contention = .check ∧ l.busy = false
        ∧ l.goBusy = { l with busy := true }.checkFailed)
      ∨ ((l.contention ≠ .check ∨ l.busy = true) ∧ l.goBusy = { l with busy := true }) := by
  unfold LineController.goBusy
  cases hb : l.busy
  · cases hc : l.contention <;> simp
  · right
    exact ⟨.inr rfl, by cases l; simp_all⟩

/-- The line goes idle: a reception in hand fails, and the receiver looks for a delimiter, except in
SENDING (R112, R123, R125). -/
theorem LineController.goIdle_cases (l : LineController) :
    (l.contention = .sending ∧ l.goIdle = l)
      ∨ (l.contention ≠ .sending ∧ ∃ i, l.rx.filling = some i
        ∧ l.goIdle = { l.failFrame i with busy := false, rx := .hunting })
      ∨ (l.contention ≠ .sending ∧ l.rx.filling = none
        ∧ l.goIdle = { l with busy := false, rx := .hunting }) := by
  unfold LineController.goIdle
  cases hc : l.contention <;> cases hr : l.rx <;> simp [Receiver.filling]

/-- A start delimiter claims a FREE bank, or is an overrun with neither bank FREE (R124). -/
theorem LineController.delimiter_cases (l : LineController) :
    (∃ i, l.bank i = .free
        ∧ l.delimiter = { l.setBank i .receiving with lastClaimed := i, rx := .length i })
      ∨ ((∀ i, l.bank i ≠ .free)
        ∧ l.delimiter = { l with rx := .waitIdle, rxOverruns := bump 255 l.rxOverruns }) := by
  have free : ∀ b : RxBank, b.isFree = true ↔ b = .free := by
    intro b; cases b <;> simp [RxBank.isFree]
  unfold LineController.delimiter LineController.claimable
  by_cases h1 : (l.bank l.lastClaimed.other).isFree = true
  · exact .inl ⟨_, (free _).mp h1, by simp [h1]⟩
  · by_cases h2 : (l.bank l.lastClaimed).isFree = true
    · exact .inl ⟨_, (free _).mp h2, by simp [h1, h2]⟩
    · right
      refine ⟨fun i hi => ?_, by simp [h1, h2]⟩
      obtain rfl | rfl := l.lastClaimed.eq_or_other i
      · exact h2 ((free _).mpr hi)
      · exact h1 ((free _).mpr hi)

/-- A frame-reception completion keeps the frame, or frees its bank, counted or not (R125, R126). -/
theorem LineController.received_cases (l : LineController) (i : RxId) (g : BitVec 4)
    (body : Vector Byte 33) (crc : BitVec 16) (stamp : Num) :
    (frameGood body crc = true ∧ bodyGroup body = g
        ∧ l.received i g body crc stamp = l.acceptFrame i ⟨body, stamp⟩)
      ∨ (frameGood body crc = true ∧ bodyGroup body ≠ g
        ∧ l.received i g body crc stamp = l.dropForeign i)
      ∨ (frameGood body crc = false ∧ l.received i g body crc stamp = l.failFrame i) := by
  unfold LineController.received
  cases hg : frameGood body crc
  · simp
  · by_cases h : bodyGroup body = g <;> simp [h]

/-- The length byte lets the body in or fails the frame (R125). -/
theorem LineController.lengthChecked_cases (l : LineController) (i : RxId) (len : Byte) :
    (len = lengthByte ∧ l.lengthChecked i len = { l with rx := .body i })
      ∨ (len ≠ lengthByte ∧ l.lengthChecked i len = l.failFrame i) := by
  unfold LineController.lengthChecked
  by_cases h : len = lengthByte <;> simp [h]

/-- A merge begins on a FULL bank (R95). -/
theorem LineController.beginMerge_cases (l : LineController) (i : RxId) :
    (∃ f, l.bank i = .full f ∧ l.beginMerge i = l.setBank i (.merging f))
      ∨ ((∀ f, l.bank i ≠ .full f) ∧ l.beginMerge i = l) := by
  unfold LineController.beginMerge
  split <;> simp_all

/-- A merge abandoned gives its bank back FULL (R101). -/
theorem LineController.abandonMerge_cases (l : LineController) (i : RxId) :
    (∃ f, l.bank i = .merging f ∧ l.abandonMerge i = l.setBank i (.full f))
      ∨ ((∀ f, l.bank i ≠ .merging f) ∧ l.abandonMerge i = l) := by
  unfold LineController.abandonMerge
  split <;> simp_all

end Sys2Proof.Machine
end

