-- ==== Sys2Proof/Laws/State.lean ====
section
/-! SUPPORT. For each update of the whole state, what every field is after it: true by rfl, so that no
later proof unfolds a record update. -/

namespace Sys2Proof.Machine

open Sys2Proof

/-! The immediate stop touches the ring and the streamer only (R139). -/

@[simp] theorem State.stopStreamer_pins (s : State) : (s.stopStreamer).pins = s.pins := rfl
@[simp] theorem State.stopStreamer_station (s : State) : (s.stopStreamer).station = s.station := rfl
@[simp] theorem State.stopStreamer_acq (s : State) : (s.stopStreamer).acq = s.acq := rfl
@[simp] theorem State.stopStreamer_store (s : State) : (s.stopStreamer).store = s.store := rfl
@[simp] theorem State.stopStreamer_sync (s : State) : (s.stopStreamer).sync = s.sync := rfl
@[simp] theorem State.stopStreamer_engine (s : State) : (s.stopStreamer).engine = s.engine := rfl
@[simp] theorem State.stopStreamer_history (s : State) : (s.stopStreamer).history = s.history := rfl
@[simp] theorem State.stopStreamer_xcheck (s : State) : (s.stopStreamer).xcheck = s.xcheck := rfl
@[simp] theorem State.stopStreamer_corr (s : State) : (s.stopStreamer).corr = s.corr := rfl
@[simp] theorem State.stopStreamer_peers (s : State) : (s.stopStreamer).peers = s.peers := rfl
@[simp] theorem State.stopStreamer_line (s : State) : (s.stopStreamer).line = s.line := rfl
@[simp] theorem State.stopStreamer_plan (s : State) :
    (s.stopStreamer).plan = s.plan.clear := rfl
@[simp] theorem State.stopStreamer_streamer (s : State) :
    (s.stopStreamer).streamer = { s.streamer with play := .idle } := rfl
@[simp] theorem State.stopStreamer_link (s : State) : (s.stopStreamer).link = s.link := rfl
@[simp] theorem State.stopStreamer_sequence (s : State) : (s.stopStreamer).sequence = s.sequence := rfl
@[simp] theorem State.stopStreamer_pending (s : State) : (s.stopStreamer).pending = s.pending := rfl

/-! FAULT entry (R172). -/

@[simp] theorem State.enterFault_pins (s : State) : (s.enterFault).pins = s.pins := rfl
@[simp] theorem State.enterFault_station (s : State) :
    (s.enterFault).station = { s.station with state := .fault } := rfl
@[simp] theorem State.enterFault_acq (s : State) :
    (s.enterFault).acq = s.acq.stop := rfl
@[simp] theorem State.enterFault_store (s : State) : (s.enterFault).store = s.store := rfl
@[simp] theorem State.enterFault_sync (s : State) : (s.enterFault).sync = s.sync := rfl
@[simp] theorem State.enterFault_engine (s : State) : (s.enterFault).engine = s.engine := rfl
@[simp] theorem State.enterFault_history (s : State) : (s.enterFault).history = s.history := rfl
@[simp] theorem State.enterFault_xcheck (s : State) : (s.enterFault).xcheck = s.xcheck := rfl
@[simp] theorem State.enterFault_corr (s : State) :
    (s.enterFault).corr = Correction.reset := rfl
@[simp] theorem State.enterFault_peers (s : State) :
    (s.enterFault).peers = { s.peers with work := .idle } := rfl
@[simp] theorem State.enterFault_line (s : State) :
    (s.enterFault).line = s.line.stop := rfl
@[simp] theorem State.enterFault_plan (s : State) :
    (s.enterFault).plan = s.plan.clear := rfl
@[simp] theorem State.enterFault_streamer (s : State) :
    (s.enterFault).streamer = { s.streamer with play := .idle } := rfl
@[simp] theorem State.enterFault_link (s : State) :
    (s.enterFault).link = s.link.stop := rfl
@[simp] theorem State.enterFault_sequence (s : State) : (s.enterFault).sequence = s.sequence := rfl
@[simp] theorem State.enterFault_pending (s : State) : (s.enterFault).pending = s.pending := rfl

/-! SETUP entry (R163). -/

@[simp] theorem State.enterSetup_pins (s : State) :
    (s.enterSetup).pins = { s.pins with spiSelect := true, spiSent := setupRequest } := rfl
@[simp] theorem State.enterSetup_station (s : State) :
    (s.enterSetup).station = { s.station with state := .setup } := rfl
@[simp] theorem State.enterSetup_acq (s : State) : (s.enterSetup).acq = s.acq := rfl
@[simp] theorem State.enterSetup_store (s : State) : (s.enterSetup).store = s.store := rfl
@[simp] theorem State.enterSetup_sync (s : State) : (s.enterSetup).sync = s.sync := rfl
@[simp] theorem State.enterSetup_engine (s : State) : (s.enterSetup).engine = s.engine := rfl
@[simp] theorem State.enterSetup_history (s : State) : (s.enterSetup).history = s.history := rfl
@[simp] theorem State.enterSetup_xcheck (s : State) : (s.enterSetup).xcheck = s.xcheck := rfl
@[simp] theorem State.enterSetup_corr (s : State) : (s.enterSetup).corr = s.corr := rfl
@[simp] theorem State.enterSetup_peers (s : State) : (s.enterSetup).peers = s.peers := rfl
@[simp] theorem State.enterSetup_line (s : State) : (s.enterSetup).line = s.line := rfl
@[simp] theorem State.enterSetup_plan (s : State) : (s.enterSetup).plan = s.plan := rfl
@[simp] theorem State.enterSetup_streamer (s : State) : (s.enterSetup).streamer = s.streamer := rfl
@[simp] theorem State.enterSetup_link (s : State) : (s.enterSetup).link = s.link := rfl
@[simp] theorem State.enterSetup_sequence (s : State) : (s.enterSetup).sequence = s.sequence := rfl
@[simp] theorem State.enterSetup_pending (s : State) : (s.enterSetup).pending = s.pending := rfl

/-! LISTEN entry (R165). -/

@[simp] theorem State.enterListen_pins (s : State) (v : Setup) : (s.enterListen v).pins = s.pins := rfl
@[simp] theorem State.enterListen_station (s : State) (v : Setup) :
    (s.enterListen v).station = { s.station with state := .listen, listenCount := 0, setup := some v } := rfl
@[simp] theorem State.enterListen_acq (s : State) (v : Setup) :
    (s.enterListen v).acq = s.acq.start (s.sync.start v.freq).period := rfl
@[simp] theorem State.enterListen_store (s : State) (v : Setup) :
    (s.enterListen v).store = s.store.start := rfl
@[simp] theorem State.enterListen_sync (s : State) (v : Setup) :
    (s.enterListen v).sync = s.sync.start v.freq := rfl
@[simp] theorem State.enterListen_engine (s : State) (v : Setup) : (s.enterListen v).engine = s.engine := rfl
@[simp] theorem State.enterListen_history (s : State) (v : Setup) : (s.enterListen v).history = s.history := rfl
@[simp] theorem State.enterListen_xcheck (s : State) (v : Setup) : (s.enterListen v).xcheck = s.xcheck := rfl
@[simp] theorem State.enterListen_corr (s : State) (v : Setup) : (s.enterListen v).corr = s.corr := rfl
@[simp] theorem State.enterListen_peers (s : State) (v : Setup) : (s.enterListen v).peers = s.peers := rfl
@[simp] theorem State.enterListen_line (s : State) (v : Setup) :
    (s.enterListen v).line = s.line.start v.serial := rfl
@[simp] theorem State.enterListen_plan (s : State) (v : Setup) : (s.enterListen v).plan = s.plan := rfl
@[simp] theorem State.enterListen_streamer (s : State) (v : Setup) : (s.enterListen v).streamer = s.streamer := rfl
@[simp] theorem State.enterListen_link (s : State) (v : Setup) :
    (s.enterListen v).link = s.link.start := rfl
@[simp] theorem State.enterListen_sequence (s : State) (v : Setup) : (s.enterListen v).sequence = s.sequence := rfl
@[simp] theorem State.enterListen_pending (s : State) (v : Setup) : (s.enterListen v).pending = s.pending := rfl

/-! The scan's part of a scan completion (R5, R13). -/

@[simp] theorem State.recordScan_pins (s : State) (sc : Scan) (check : Code) : (s.recordScan sc check).pins = s.pins := rfl
@[simp] theorem State.recordScan_station (s : State) (sc : Scan) (check : Code) : (s.recordScan sc check).station = s.station := rfl
@[simp] theorem State.recordScan_acq (s : State) (sc : Scan) (check : Code) :
    (s.recordScan sc check).acq = s.acq.complete sc check := rfl
@[simp] theorem State.recordScan_store (s : State) (sc : Scan) (check : Code) :
    (s.recordScan sc check).store = s.store.write (scanRecord sc check) := rfl
@[simp] theorem State.recordScan_sync (s : State) (sc : Scan) (check : Code) : (s.recordScan sc check).sync = s.sync := rfl
@[simp] theorem State.recordScan_engine (s : State) (sc : Scan) (check : Code) : (s.recordScan sc check).engine = s.engine := rfl
@[simp] theorem State.recordScan_history (s : State) (sc : Scan) (check : Code) : (s.recordScan sc check).history = s.history := rfl
@[simp] theorem State.recordScan_xcheck (s : State) (sc : Scan) (check : Code) : (s.recordScan sc check).xcheck = s.xcheck := rfl
@[simp] theorem State.recordScan_corr (s : State) (sc : Scan) (check : Code) : (s.recordScan sc check).corr = s.corr := rfl
@[simp] theorem State.recordScan_peers (s : State) (sc : Scan) (check : Code) : (s.recordScan sc check).peers = s.peers := rfl
@[simp] theorem State.recordScan_line (s : State) (sc : Scan) (check : Code) : (s.recordScan sc check).line = s.line := rfl
@[simp] theorem State.recordScan_plan (s : State) (sc : Scan) (check : Code) : (s.recordScan sc check).plan = s.plan := rfl
@[simp] theorem State.recordScan_streamer (s : State) (sc : Scan) (check : Code) : (s.recordScan sc check).streamer = s.streamer := rfl
@[simp] theorem State.recordScan_link (s : State) (sc : Scan) (check : Code) : (s.recordScan sc check).link = s.link := rfl
@[simp] theorem State.recordScan_sequence (s : State) (sc : Scan) (check : Code) : (s.recordScan sc check).sequence = s.sequence := rfl
@[simp] theorem State.recordScan_pending (s : State) (sc : Scan) (check : Code) : (s.recordScan sc check).pending = s.pending := rfl

/-! The window close (R10). -/

@[simp] theorem State.windowClose_pins (s : State) (v : Setup) (q : Bool) : (s.windowClose v q).pins = s.pins := rfl
@[simp] theorem State.windowClose_station (s : State) (v : Setup) (q : Bool) :
    (s.windowClose v q).station = { s.station with quench := q } := rfl
@[simp] theorem State.windowClose_acq (s : State) (v : Setup) (q : Bool) : (s.windowClose v q).acq = s.acq := rfl
@[simp] theorem State.windowClose_store (s : State) (v : Setup) (q : Bool) :
    (s.windowClose v q).store = s.store.rotate s.acq.closeNumber := rfl
@[simp] theorem State.windowClose_sync (s : State) (v : Setup) (q : Bool) : (s.windowClose v q).sync = s.sync := rfl
@[simp] theorem State.windowClose_engine (s : State) (v : Setup) (q : Bool) :
    (s.windowClose v q).engine = startRun s.engine s.store.window s.acq.closeNumber s.station.told := rfl
@[simp] theorem State.windowClose_history (s : State) (v : Setup) (q : Bool) : (s.windowClose v q).history = s.history := rfl
@[simp] theorem State.windowClose_xcheck (s : State) (v : Setup) (q : Bool) : (s.windowClose v q).xcheck = s.xcheck := rfl
@[simp] theorem State.windowClose_corr (s : State) (v : Setup) (q : Bool) : (s.windowClose v q).corr = s.corr := rfl
@[simp] theorem State.windowClose_peers (s : State) (v : Setup) (q : Bool) :
    (s.windowClose v q).peers = s.peers.close v.aging s.acq.closeNumber s.station.counted := rfl
@[simp] theorem State.windowClose_line (s : State) (v : Setup) (q : Bool) :
    (s.windowClose v q).line = abandonWork s.peers.work s.line := rfl
@[simp] theorem State.windowClose_plan (s : State) (v : Setup) (q : Bool) :
    (s.windowClose v q).plan = (boundary (s.acq.closeNumber + 1) s.plan s.streamer).1 := rfl
@[simp] theorem State.windowClose_streamer (s : State) (v : Setup) (q : Bool) :
    (s.windowClose v q).streamer = (boundary (s.acq.closeNumber + 1) s.plan s.streamer).2 := rfl
@[simp] theorem State.windowClose_link (s : State) (v : Setup) (q : Bool) :
    (s.windowClose v q).link = s.link.takeSnapshot := rfl
@[simp] theorem State.windowClose_sequence (s : State) (v : Setup) (q : Bool) : (s.windowClose v q).sequence = s.sequence := rfl
@[simp] theorem State.windowClose_pending (s : State) (v : Setup) (q : Bool) : (s.windowClose v q).pending = s.pending := rfl

/-! A clean transmission completion (R122). -/

@[simp] theorem State.transmitted_pins (s : State) (f : SlotFrame) : (s.transmitted f).pins = s.pins := rfl
@[simp] theorem State.transmitted_station (s : State) (f : SlotFrame) :
    (s.transmitted f).station = s.station.sent f := rfl
@[simp] theorem State.transmitted_acq (s : State) (f : SlotFrame) : (s.transmitted f).acq = s.acq := rfl
@[simp] theorem State.transmitted_store (s : State) (f : SlotFrame) : (s.transmitted f).store = s.store := rfl
@[simp] theorem State.transmitted_sync (s : State) (f : SlotFrame) : (s.transmitted f).sync = s.sync := rfl
@[simp] theorem State.transmitted_engine (s : State) (f : SlotFrame) : (s.transmitted f).engine = s.engine := rfl
@[simp] theorem State.transmitted_history (s : State) (f : SlotFrame) : (s.transmitted f).history = s.history := rfl
@[simp] theorem State.transmitted_xcheck (s : State) (f : SlotFrame) : (s.transmitted f).xcheck = s.xcheck := rfl
@[simp] theorem State.transmitted_corr (s : State) (f : SlotFrame) : (s.transmitted f).corr = s.corr := rfl
@[simp] theorem State.transmitted_peers (s : State) (f : SlotFrame) : (s.transmitted f).peers = s.peers := rfl
@[simp] theorem State.transmitted_line (s : State) (f : SlotFrame) :
    (s.transmitted f).line = { s.line with slot := none, contention := .quiet } := rfl
@[simp] theorem State.transmitted_plan (s : State) (f : SlotFrame) : (s.transmitted f).plan = s.plan := rfl
@[simp] theorem State.transmitted_streamer (s : State) (f : SlotFrame) : (s.transmitted f).streamer = s.streamer := rfl
@[simp] theorem State.transmitted_link (s : State) (f : SlotFrame) : (s.transmitted f).link = s.link := rfl
@[simp] theorem State.transmitted_sequence (s : State) (f : SlotFrame) : (s.transmitted f).sequence = s.sequence := rfl
@[simp] theorem State.transmitted_pending (s : State) (f : SlotFrame) : (s.transmitted f).pending = s.pending := rfl

/-! A run completion in LISTEN, ACTIVE or HOLD (R39). -/

@[simp] theorem State.takeHandover_pins (s : State) (v : Setup) (r : Run) (h : Handover) : (s.takeHandover v r h).pins = s.pins := rfl
@[simp] theorem State.takeHandover_station (s : State) (v : Setup) (r : Run) (h : Handover) :
    (s.takeHandover v r h).station = h.station := rfl
@[simp] theorem State.takeHandover_acq (s : State) (v : Setup) (r : Run) (h : Handover) : (s.takeHandover v r h).acq = s.acq := rfl
@[simp] theorem State.takeHandover_store (s : State) (v : Setup) (r : Run) (h : Handover) :
    (s.takeHandover v r h).store = s.store.release r.older := rfl
@[simp] theorem State.takeHandover_sync (s : State) (v : Setup) (r : Run) (h : Handover) :
    (s.takeHandover v r h).sync = h.sync := rfl
@[simp] theorem State.takeHandover_engine (s : State) (v : Setup) (r : Run) (h : Handover) :
    (s.takeHandover v r h).engine = { run := none, saturated := h.measured.saturated } := rfl
@[simp] theorem State.takeHandover_history (s : State) (v : Setup) (r : Run) (h : Handover) :
    (s.takeHandover v r h).history = pushRecord s.history (closeRecord r h.measured) := rfl
@[simp] theorem State.takeHandover_xcheck (s : State) (v : Setup) (r : Run) (h : Handover) :
    (s.takeHandover v r h).xcheck = h.xcheck := rfl
@[simp] theorem State.takeHandover_corr (s : State) (v : Setup) (r : Run) (h : Handover) :
    (s.takeHandover v r h).corr = settleCorrection s.station.state h.station.state h.corr := rfl
@[simp] theorem State.takeHandover_peers (s : State) (v : Setup) (r : Run) (h : Handover) :
    (s.takeHandover v r h).peers = s.peers.frameBuilt := rfl
@[simp] theorem State.takeHandover_line (s : State) (v : Setup) (r : Run) (h : Handover) :
    (s.takeHandover v r h).line = s.line.fill (shareFrame (frameFields v s h)) := rfl
@[simp] theorem State.takeHandover_plan (s : State) (v : Setup) (r : Run) (h : Handover) :
    (s.takeHandover v r h).plan = planWrite s.station.state h.station.state s.peers.view.ownCounted r.number
        h.limited s.plan := rfl
@[simp] theorem State.takeHandover_streamer (s : State) (v : Setup) (r : Run) (h : Handover) : (s.takeHandover v r h).streamer = s.streamer := rfl
@[simp] theorem State.takeHandover_link (s : State) (v : Setup) (r : Run) (h : Handover) :
    (s.takeHandover v r h).link = s.link.clearTrip := rfl
@[simp] theorem State.takeHandover_sequence (s : State) (v : Setup) (r : Run) (h : Handover) :
    (s.takeHandover v r h).sequence = s.sequence + 1 := rfl
@[simp] theorem State.takeHandover_pending (s : State) (v : Setup) (r : Run) (h : Handover) : (s.takeHandover v r h).pending = s.pending := rfl

/-! A run completion after FAULT entry (R173). -/

@[simp] theorem State.completeRunInFault_pins (s : State) (v : Setup) (r : Run) : (s.completeRunInFault v r).pins = s.pins := rfl
@[simp] theorem State.completeRunInFault_station (s : State) (v : Setup) (r : Run) : (s.completeRunInFault v r).station = s.station := rfl
@[simp] theorem State.completeRunInFault_acq (s : State) (v : Setup) (r : Run) : (s.completeRunInFault v r).acq = s.acq := rfl
@[simp] theorem State.completeRunInFault_store (s : State) (v : Setup) (r : Run) : (s.completeRunInFault v r).store = s.store := rfl
@[simp] theorem State.completeRunInFault_sync (s : State) (v : Setup) (r : Run) : (s.completeRunInFault v r).sync = s.sync := rfl
@[simp] theorem State.completeRunInFault_corr (s : State) (v : Setup) (r : Run) : (s.completeRunInFault v r).corr = s.corr := rfl
@[simp] theorem State.completeRunInFault_peers (s : State) (v : Setup) (r : Run) : (s.completeRunInFault v r).peers = s.peers := rfl
@[simp] theorem State.completeRunInFault_line (s : State) (v : Setup) (r : Run) : (s.completeRunInFault v r).line = s.line := rfl
@[simp] theorem State.completeRunInFault_plan (s : State) (v : Setup) (r : Run) : (s.completeRunInFault v r).plan = s.plan := rfl
@[simp] theorem State.completeRunInFault_streamer (s : State) (v : Setup) (r : Run) : (s.completeRunInFault v r).streamer = s.streamer := rfl
@[simp] theorem State.completeRunInFault_link (s : State) (v : Setup) (r : Run) : (s.completeRunInFault v r).link = s.link := rfl
@[simp] theorem State.completeRunInFault_sequence (s : State) (v : Setup) (r : Run) : (s.completeRunInFault v r).sequence = s.sequence := rfl
@[simp] theorem State.completeRunInFault_pending (s : State) (v : Setup) (r : Run) : (s.completeRunInFault v r).pending = s.pending := rfl

/-! Reset-line assertion (R161). -/

@[simp] theorem State.assertReset_pins (s : State) :
    (s.assertReset).pins = { s.pins with resetN := false, resetAsserted := true, spiSelect := false, spiSent := [] } := rfl
@[simp] theorem State.assertReset_station (s : State) :
    (s.assertReset).station = { Station.reset with waiting := s.station.waiting } := rfl
@[simp] theorem State.assertReset_acq (s : State) :
    (s.assertReset).acq = Acquisition.reset := rfl
@[simp] theorem State.assertReset_store (s : State) :
    (s.assertReset).store = SampleStore.reset := rfl
@[simp] theorem State.assertReset_sync (s : State) :
    (s.assertReset).sync = s.sync.restart := rfl
@[simp] theorem State.assertReset_engine (s : State) :
    (s.assertReset).engine = Engine.reset := rfl
@[simp] theorem State.assertReset_history (s : State) :
    (s.assertReset).history = [] := rfl
@[simp] theorem State.assertReset_xcheck (s : State) :
    (s.assertReset).xcheck = CrossCheck.reset := rfl
@[simp] theorem State.assertReset_corr (s : State) :
    (s.assertReset).corr = Correction.reset := rfl
@[simp] theorem State.assertReset_peers (s : State) :
    (s.assertReset).peers = PeerTable.reset := rfl
@[simp] theorem State.assertReset_line (s : State) :
    (s.assertReset).line = s.line.restart := rfl
@[simp] theorem State.assertReset_plan (s : State) :
    (s.assertReset).plan = PlanRing.reset := rfl
@[simp] theorem State.assertReset_streamer (s : State) :
    (s.assertReset).streamer = Streamer.reset := rfl
@[simp] theorem State.assertReset_link (s : State) :
    (s.assertReset).link = ModuleLink.reset := rfl
@[simp] theorem State.assertReset_sequence (s : State) :
    (s.assertReset).sequence = 0 := rfl
@[simp] theorem State.assertReset_pending (s : State) : (s.assertReset).pending = s.pending := rfl

/-! The expiry: the streamer is stopped only where silence is declared at it (R153). -/

theorem State.expire_eq (s : State) (codes : Channels Code) (h : s.link.declares = false) :
    s.expire codes =
      { s with
        acq := s.acq.expire s.sync.period codes
        link := s.link.expire s.streamer.play (outputValues s.streamer.play s.acq.next) } := by
  simp [State.expire, h]

theorem State.expire_declared (s : State) (codes : Channels Code) (h : s.link.declares = true) :
    s.expire codes =
      { s with
        acq := s.acq.expire s.sync.period codes
        link := s.link.expire s.streamer.play (outputValues s.streamer.play s.acq.next) }.stopStreamer := by
  simp [State.expire, h]

@[simp] theorem State.expire_acq (s : State) (codes : Channels Code) :
    (s.expire codes).acq = s.acq.expire s.sync.period codes := by
  unfold State.expire; split <;> rfl
@[simp] theorem State.expire_link (s : State) (codes : Channels Code) :
    (s.expire codes).link = s.link.expire s.streamer.play (outputValues s.streamer.play s.acq.next) := by
  unfold State.expire; split <;> rfl
@[simp] theorem State.expire_pins (s : State) (codes : Channels Code) :
    (s.expire codes).pins = s.pins := by
  unfold State.expire; split <;> rfl
@[simp] theorem State.expire_station (s : State) (codes : Channels Code) :
    (s.expire codes).station = s.station := by
  unfold State.expire; split <;> rfl
@[simp] theorem State.expire_store (s : State) (codes : Channels Code) :
    (s.expire codes).store = s.store := by
  unfold State.expire; split <;> rfl
@[simp] theorem State.expire_sync (s : State) (codes : Channels Code) :
    (s.expire codes).sync = s.sync := by
  unfold State.expire; split <;> rfl
@[simp] theorem State.expire_engine (s : State) (codes : Channels Code) :
    (s.expire codes).engine = s.engine := by
  unfold State.expire; split <;> rfl
@[simp] theorem State.expire_history (s : State) (codes : Channels Code) :
    (s.expire codes).history = s.history := by
  unfold State.expire; split <;> rfl
@[simp] theorem State.expire_xcheck (s : State) (codes : Channels Code) :
    (s.expire codes).xcheck = s.xcheck := by
  unfold State.expire; split <;> rfl
@[simp] theorem State.expire_corr (s : State) (codes : Channels Code) :
    (s.expire codes).corr = s.corr := by
  unfold State.expire; split <;> rfl
@[simp] theorem State.expire_peers (s : State) (codes : Channels Code) :
    (s.expire codes).peers = s.peers := by
  unfold State.expire; split <;> rfl
@[simp] theorem State.expire_line (s : State) (codes : Channels Code) :
    (s.expire codes).line = s.line := by
  unfold State.expire; split <;> rfl
@[simp] theorem State.expire_sequence (s : State) (codes : Channels Code) :
    (s.expire codes).sequence = s.sequence := by
  unfold State.expire; split <;> rfl
@[simp] theorem State.expire_pending (s : State) (codes : Channels Code) :
    (s.expire codes).pending = s.pending := by
  unfold State.expire; split <;> rfl

/-! A good status word: only the link, and on a trip the ring and the streamer (R152, R155). -/

@[simp] theorem State.takeStatus_link (s : State) (word : BitVec 24) :
    (s.takeStatus word).link = s.link.takeStatus word := by
  unfold State.takeStatus; split <;> rfl
@[simp] theorem State.takeStatus_pins (s : State) (word : BitVec 24) :
    (s.takeStatus word).pins = s.pins := by
  unfold State.takeStatus; split <;> rfl
@[simp] theorem State.takeStatus_station (s : State) (word : BitVec 24) :
    (s.takeStatus word).station = s.station := by
  unfold State.takeStatus; split <;> rfl
@[simp] theorem State.takeStatus_acq (s : State) (word : BitVec 24) :
    (s.takeStatus word).acq = s.acq := by
  unfold State.takeStatus; split <;> rfl
@[simp] theorem State.takeStatus_store (s : State) (word : BitVec 24) :
    (s.takeStatus word).store = s.store := by
  unfold State.takeStatus; split <;> rfl
@[simp] theorem State.takeStatus_sync (s : State) (word : BitVec 24) :
    (s.takeStatus word).sync = s.sync := by
  unfold State.takeStatus; split <;> rfl
@[simp] theorem State.takeStatus_engine (s : State) (word : BitVec 24) :
    (s.takeStatus word).engine = s.engine := by
  unfold State.takeStatus; split <;> rfl
@[simp] theorem State.takeStatus_history (s : State) (word : BitVec 24) :
    (s.takeStatus word).history = s.history := by
  unfold State.takeStatus; split <;> rfl
@[simp] theorem State.takeStatus_xcheck (s : State) (word : BitVec 24) :
    (s.takeStatus word).xcheck = s.xcheck := by
  unfold State.takeStatus; split <;> rfl
@[simp] theorem State.takeStatus_corr (s : State) (word : BitVec 24) :
    (s.takeStatus word).corr = s.corr := by
  unfold State.takeStatus; split <;> rfl
@[simp] theorem State.takeStatus_peers (s : State) (word : BitVec 24) :
    (s.takeStatus word).peers = s.peers := by
  unfold State.takeStatus; split <;> rfl
@[simp] theorem State.takeStatus_line (s : State) (word : BitVec 24) :
    (s.takeStatus word).line = s.line := by
  unfold State.takeStatus; split <;> rfl
@[simp] theorem State.takeStatus_sequence (s : State) (word : BitVec 24) :
    (s.takeStatus word).sequence = s.sequence := by
  unfold State.takeStatus; split <;> rfl
@[simp] theorem State.takeStatus_pending (s : State) (word : BitVec 24) :
    (s.takeStatus word).pending = s.pending := by
  unfold State.takeStatus; split <;> rfl

/-! The start of a merge touches the table's work and the state of one bank (R95). -/

/-- What starting a merge can do: nothing, where the table is busy or no frame waits; otherwise the first
waiting bank becomes the table's work and MERGING. -/
theorem State.startMerge_cases (s : State) :
    s.startMerge = s ∨
      ∃ i rest, s.peers.work = .idle ∧ s.line.order = i :: rest
        ∧ s.startMerge =
          { s with peers := { s.peers with work := .merge i }, line := s.line.beginMerge i } := by
  unfold State.startMerge
  split
  · split
    · exact .inl rfl
    · exact .inr ⟨_, _, ‹_›, ‹_›, rfl⟩
  · exact .inl rfl
  · exact .inl rfl

@[simp] theorem State.startMerge_pins (s : State) : s.startMerge.pins = s.pins := by
  rcases s.startMerge_cases with h | ⟨i, rest, -, -, h⟩ <;> rw [h]
@[simp] theorem State.startMerge_station (s : State) : s.startMerge.station = s.station := by
  rcases s.startMerge_cases with h | ⟨i, rest, -, -, h⟩ <;> rw [h]
@[simp] theorem State.startMerge_acq (s : State) : s.startMerge.acq = s.acq := by
  rcases s.startMerge_cases with h | ⟨i, rest, -, -, h⟩ <;> rw [h]
@[simp] theorem State.startMerge_store (s : State) : s.startMerge.store = s.store := by
  rcases s.startMerge_cases with h | ⟨i, rest, -, -, h⟩ <;> rw [h]
@[simp] theorem State.startMerge_sync (s : State) : s.startMerge.sync = s.sync := by
  rcases s.startMerge_cases with h | ⟨i, rest, -, -, h⟩ <;> rw [h]
@[simp] theorem State.startMerge_engine (s : State) : s.startMerge.engine = s.engine := by
  rcases s.startMerge_cases with h | ⟨i, rest, -, -, h⟩ <;> rw [h]
@[simp] theorem State.startMerge_history (s : State) : s.startMerge.history = s.history := by
  rcases s.startMerge_cases with h | ⟨i, rest, -, -, h⟩ <;> rw [h]
@[simp] theorem State.startMerge_xcheck (s : State) : s.startMerge.xcheck = s.xcheck := by
  rcases s.startMerge_cases with h | ⟨i, rest, -, -, h⟩ <;> rw [h]
@[simp] theorem State.startMerge_corr (s : State) : s.startMerge.corr = s.corr := by
  rcases s.startMerge_cases with h | ⟨i, rest, -, -, h⟩ <;> rw [h]
@[simp] theorem State.startMerge_plan (s : State) : s.startMerge.plan = s.plan := by
  rcases s.startMerge_cases with h | ⟨i, rest, -, -, h⟩ <;> rw [h]
@[simp] theorem State.startMerge_streamer (s : State) : s.startMerge.streamer = s.streamer := by
  rcases s.startMerge_cases with h | ⟨i, rest, -, -, h⟩ <;> rw [h]
@[simp] theorem State.startMerge_link (s : State) : s.startMerge.link = s.link := by
  rcases s.startMerge_cases with h | ⟨i, rest, -, -, h⟩ <;> rw [h]
@[simp] theorem State.startMerge_sequence (s : State) : s.startMerge.sequence = s.sequence := by
  rcases s.startMerge_cases with h | ⟨i, rest, -, -, h⟩ <;> rw [h]
@[simp] theorem State.startMerge_pending (s : State) : s.startMerge.pending = s.pending := by
  rcases s.startMerge_cases with h | ⟨i, rest, -, -, h⟩ <;> rw [h]
@[simp] theorem State.startMerge_entries (s : State) :
    s.startMerge.peers.entries = s.peers.entries := by
  rcases s.startMerge_cases with h | ⟨i, rest, -, -, h⟩ <;> rw [h]
@[simp] theorem State.startMerge_view (s : State) : s.startMerge.peers.view = s.peers.view := by
  rcases s.startMerge_cases with h | ⟨i, rest, -, -, h⟩ <;> rw [h]
@[simp] theorem State.startMerge_conflict (s : State) :
    s.startMerge.peers.conflict = s.peers.conflict := by
  rcases s.startMerge_cases with h | ⟨i, rest, -, -, h⟩ <;> rw [h]

end Sys2Proof.Machine
end

