-- ==== Sys2Proof/WellFormed.lean ====
section
/-! DEFINITION. Which commands can be sent at all. The types of the operands already bound every
field; one check is left. -/

namespace Sys2Proof

/-- Whether a command is one the outside can send. A word of the module link begins with its first
coded bit (11_formats, section 11.2), so a word that arrives has at least one bit. -/
def Instr.wellFormed : Instr → Bool
  | .statusArrival bits _ => decide (0 < bits)
  | .powerOn => true
  | .lossOfSupplyGood => true
  | .endOfPowerOnWait _ => true
  | .resetLineAssertion => true
  | .resetLineRelease => true
  | .setupReadCompletion _ => true
  | .sampleTimerExpiry _ => true
  | .moduleLinkSilence => true
  | .scanCompletion _ _ => true
  | .viewCopyCompletion => true
  | .runCompletion => true
  | .backoffExpiry => true
  | .clearCheckPass => true
  | .lineBusy => true
  | .lineIdle => true
  | .collision => true
  | .transmissionCompletion => true
  | .startDelimiter _ => true
  | .lengthByteCheck _ => true
  | .frameReceptionCompletion _ _ => true
  | .mergeCompletion => true
  | .resetNReturnsHigh => true

end Sys2Proof
end

