-- ==== Sys2Proof/Tests/Slice0.lean ====
section
/-! SUPPORT. Tests: the worked examples of the spec, one step at a time, and a witness for the hypotheses of
every statement of Certificates/Slice0/Obligations.lean. Expected values come from the spec's text or are
worked by hand from it; each test names its source. -/

namespace Sys2Proof.Tests

open Sys2Proof Sys2Proof.Machine

-- One test at a time: many kernel evaluations waiting at once ask for more threads than the checks allow.
set_option Elab.async false

/-! ## The check on commands -/

theorem test_wellFormed_refuses_word_of_no_bits :
    (Instr.statusArrival 0 0#24).wellFormed = false := rfl

theorem test_wellFormed_takes_short_word : (Instr.statusArrival 1 0#24).wellFormed = true := rfl

/-- No row of the table has bits, so no word spells a command. -/
theorem test_no_word_spells_a_command : decodeTableWord 0 0 = none := rfl

/-! ## Small data -/

def fr (x : Int) : Frac := BitVec.ofInt 24 x
def code (x : Int) : Code := BitVec.ofInt 16 x
def tri (q re im : Int) : Triple := ⟨fr q, fr re, fr im⟩
def ints (t : Triple) : Int × Int × Int := (t.q.toInt, t.re.toInt, t.im.toInt)
def parts (p : Phasor) : Int × Int := (p.re.toInt, p.im.toInt)
def samples (p : Phases Frac) : Int × Int × Int := (p.a.toInt, p.b.toInt, p.c.toInt)
def outputs (p : Phases Code) : Int × Int × Int := (p.a.toInt, p.b.toInt, p.c.toInt)

/-- The station of sections 3.6, 4.7 and 5.5. -/
def v0 : Setup :=
  { group := 1, id := 1, freq := .hz50, serial := 1000, imax := 754975, vmin := 2516582, cmax := 419430
    tx := 167772, aging := 2, gain := 2, listenPeriod := 8, reentryPeriod := 4, adjusted := false }

/-- Its setup image; the CRC is that of section 11 over the thirty bytes before it. -/
def image0 : Vector Byte 32 :=
  #v[0x51, 1, 1, 50, 0, 0, 0x03, 0xE8, 0, 0x0B, 0x85, 0x1F, 0, 0x26, 0x66, 0x66, 0, 0x06, 0x66, 0x66,
     0, 0x02, 0x8F, 0x5C, 2, 2, 0, 8, 0, 4, 0x41, 0x14]

/-- The image of R182's example: A = 0, Tx = 50,000, N_L = 300. -/
def image182 : Vector Byte 32 :=
  #v[0x51, 1, 1, 50, 0, 0, 0x03, 0xE8, 0, 0x0B, 0x85, 0x1F, 0, 0x26, 0x66, 0x66, 0, 0x06, 0x66, 0x66,
     0, 0, 0xC3, 0x50, 0, 2, 0x01, 0x2C, 0, 4, 0x95, 0x8D]

/-- Every field that is clamped one step outside its range, or far outside; 60 Hz, serial low half 0. -/
def imageOut : Vector Byte 32 :=
  #v[0x51, 16, 8, 60, 0, 1, 0, 0, 0xFF, 0xFF, 0xFF, 0xFF, 0x7F, 0xFF, 0xFF, 0xFF, 0xFF, 0xFF, 0xFF, 0xFF,
     0x80, 0, 0, 0, 9, 4, 0, 7, 0, 3, 0x73, 0xFB]

/-- Every field at the top of its range; the highest serial in use. -/
def imageTop : Vector Byte 32 :=
  #v[0x51, 15, 7, 60, 0xFF, 0xFF, 0xFF, 0xFE, 0, 0x40, 0, 0, 0, 0x73, 0x33, 0x33, 0, 0x20, 0, 0,
     0, 0x40, 0, 0, 8, 3, 0, 255, 0, 255, 0x2C, 0x4A]

/-- R181: a memory that drives nothing reads as thirty-two bytes of one value. -/
def imageZero : Vector Byte 32 := Vector.replicate 32 0

/-! ## Formats (11_formats) -/

/-- R177: the CRC of the nine bytes 0x31 to 0x39 is 0x29B1. -/
theorem test_crc16_check_value :
    crc16 [0x31, 0x32, 0x33, 0x34, 0x35, 0x36, 0x37, 0x38, 0x39] = 0x29B1#16 := by decide +kernel

/-- R179: 0x85 gives 0x61, and the two bytes 0x85, 0xC8 give 0x56. -/
theorem test_crc8_check_values : crc8 [0x85] = 0x61#8 ∧ crc8 [0x85, 0xC8] = 0x56#8 := by decide +kernel

theorem test_image_in_range : readImage image0 = some v0 := by decide +kernel

/-- R182: A = 1, Tx = 83,886 and N_L = 255, with the setup-adjusted flag set. -/
theorem test_image_R182 :
    readImage image182
      = some { v0 with aging := 1, tx := 83886, listenPeriod := 255, adjusted := true } := by
  decide +kernel

/-- R164, R182: each field at the end of its range. -/
theorem test_image_out_of_range :
    readImage imageOut
      = some { group := 15, id := 7, freq := .hz60, serial := 65536, imax := 32768, vmin := 7549747
               cmax := 0, tx := 83886, aging := 8, gain := 3, listenPeriod := 8, reentryPeriod := 4
               adjusted := true } := by decide +kernel

theorem test_image_top_of_range :
    readImage imageTop
      = some { group := 15, id := 7, freq := .hz60, serial := 0xFFFFFFFE, imax := 4194304
               vmin := 7549747, cmax := 2097152, tx := 4194304, aging := 8, gain := 3
               listenPeriod := 255, reentryPeriod := 255, adjusted := false } := by decide +kernel

/-- R181: the CRC of thirty bytes of 0x00 or of 0xFF is neither 0x0000 nor 0xFFFF. -/
theorem test_image_undriven :
    readImage imageZero = none ∧ readImage (Vector.replicate 32 0xFF) = none := by decide +kernel

/-! ## Reference table and synchronizer (02) -/

/-- R18: the four exact points and the two identities. -/
theorem test_table_identities :
    sine 0 = 0 ∧ sine 64 = 8388607 ∧ sine 128 = 0 ∧ sine 192 = -8388607
      ∧ (∀ k < 256, sine (256 - k) = -sine k) ∧ ∀ j < 65, sine (64 + j) = sine (64 - j) := by
  decide +kernel

/-- R19: the 64 sines of a window, the cosines, and their products sum to zero. -/
theorem test_table_sums :
    ((List.range 64).map fun i => sine (4 * i)).sum = 0
      ∧ ((List.range 64).map fun i => cosine (4 * i)).sum = 0
      ∧ ((List.range 64).map fun i => sine (4 * i) * cosine (4 * i)).sum = 0 := by decide +kernel

/-- Section 2.6. -/
theorem test_update_of_section_2_6 :
    let s := ({ Synchronizer.reset.start .hz50 with lock := .locked }).update v0 (fr 6710886) (fr 100663)
    (phaseError (fr 6710886) (fr 100663), s.trim, s.period, s.lock, s.slipStreak)
      = (983, 0, 7665, .locked, 0) := by decide +kernel

/-- Section 2.7, runs 2 to 5 after a power-on. -/
theorem test_acquisition_of_section_2_7 :
    ([1, 2, 3, 4].map fun n =>
        let s := (([-335544, -134218, 100663, 33554].take n).foldl
          (fun s im => s.update v0 (fr 6710886) (fr im)) (Synchronizer.reset.start .hz50))
        (s.trim, s.period, s.lock, s.lockStreak))
      = [(3, 7734, .acquiring, 0), (4, 7704, .acquiring, 1), (4, 7669, .acquiring, 2),
         (4, 7679, .acquiring, 3)] := by decide +kernel

/-- Section 2.7, a grid beyond the trim range. -/
theorem test_clamps_of_section_2_7 :
    (newTrim .hz50 158 (-4500), periodOf .hz50 160 (phaseTerm (-4500))) = (160, 7904) := by
  decide +kernel

/-! ## Engine, cross-check, correction, share (03 to 05) -/

/-- The load phasors of section 3.6. -/
def load36 : Phases Phasor :=
  ⟨⟨fr 2936012, fr (-838861), false⟩, ⟨fr (-3647430), fr (-1396756), false⟩,
   ⟨fr 711418, fr 2235617, false⟩⟩

theorem test_components_of_section_3_6 :
    parts (positiveSequence load36) = (2516582, -1677722)
      ∧ parts (negativeSequence load36) = (419430, 838861) := by decide +kernel

/-- Section 3.7: load channel a at the ends of the range over a cycle window. -/
def clipped37 : List ScanRecord :=
  (List.range 64).map fun i =>
    scanRecord ⟨BitVec.ofNat 6 i, ⟨⟨if i < 32 then 32767 else code (-32768), 0, 0⟩, ⟨0, 0, 0⟩, ⟨0, 0, 0⟩⟩⟩
      29491

theorem test_clipped_window_of_section_3_7 :
    (extract clipped37 fun r => r.codes.load.a).re.toInt = 8388607
      ∧ (measureWindow clipped37).saturated = true ∧ (measureWindow clipped37).usable = false
      ∧ (measureWindow clipped37).overRange = true := by decide +kernel

/-- Log entry 24: the same wave 45 degrees on has a fundamental of 1.27 and two parts of about 0.9, and by R49
and R43 neither reduction saturates. -/
theorem test_clipped_wave_at_45_degrees :
    let x := extract ((List.range 64).map fun i =>
      scanRecord ⟨BitVec.ofNat 6 i, ⟨⟨if 8 ≤ i ∧ i < 40 then 32767 else code (-32768), 0, 0⟩, ⟨0, 0, 0⟩, ⟨0, 0, 0⟩⟩⟩ 0)
        fun r => r.codes.load.a
    x.sat = false ∧ 7000000 < x.re.toInt ∧ x.re.toInt < 8000000 := by decide +kernel

/-- Section 4.6: the distances of peers 2 and 5. -/
theorem test_distances_of_section_4_6 :
    distance (tri 1650000 (-410000) (-830000)) (tri 1662278 (-415570) (-821139)) = 23924
      ∧ distance (tri 1650000 (-410000) (-830000)) (tri 1472278 (-390570) (-891139)) = 248576 := by
  decide +kernel

/-- A fresh ACTIVE record that is counted. -/
def peer (i : Fin 8) (d e : Triple) (h : BitVec 16) : ViewRecord :=
  { id := i, state := .active, headroom := h, e := e, d := d, unusable := false, age := 0, fresh := true
    counted := true }

def heldPeer (unusable : Bool) : ViewRecord :=
  { peer 6 .zero .zero 0 with state := .hold, unusable := unusable, counted := false }

def view46 : List ViewRecord :=
  [peer 2 (tri 1662278 (-415570) (-821139)) .zero 0, peer 5 (tri 1472278 (-390570) (-891139)) .zero 0]

def history46 : List CloseRecord := [⟨9, tri 1650000 (-410000) (-830000), .zero, true⟩]

/-- Section 4.6: one of two disagrees; two of three; and peer 6 with its unusable flag set. -/
theorem test_verdicts_of_section_4_6 :
    judge 167772 10 history46 ⟨view46 ++ [heldPeer false], true⟩ = .agreed
      ∧ judge 167772 10 history46
          ⟨view46 ++ [peer 7 (tri 1450000 (-410000) (-830000)) .zero 0], true⟩ = .outvoted
      ∧ judge 167772 10 history46 ⟨view46 ++ [heldPeer true], true⟩ = .notJudged := by decide +kernel

/-- The view and the history of sections 4.7 and 5.5, at close 10. -/
def view47 : View :=
  ⟨[peer 2 .zero (tri 300000 (-87000) (-174000)) 4608, peer 5 .zero (tri 231565 (-66005) (-131993)) 3686],
   true⟩

def history47 : List CloseRecord :=
  [⟨9, .zero, tri 300000 (-87000) (-174000), true⟩, ⟨8, .zero, .zero, true⟩,
   ⟨7, tri 900000 (-240000) (-480000), .zero, true⟩]

/-- Section 4.7; the part of -7 moves by 0, not by -1 (R70). -/
theorem test_correction_of_section_4_7 :
    ints (nextCorrection v0 10 .locked history47 view47 ⟨tri 25000 0 0, 3⟩) = (33554, 0, 0)
      ∧ ints (groupCommand (tri 1677722 (-419430) (-838861)) (tri 33554 0 0))
          = (1711276, -419430, -838861) := by decide +kernel

/-- Section 5.5. -/
theorem test_share_of_section_5_5 :
    shareFactor view47 4608 = 23406 ∧ ownLimit 754975 200 = 589824
      ∧ ints (rawReference (tri 1711276 (-419430) (-838861)) 23406) = (611177, -149798, -299596)
      ∧ measure (tri 611177 (-149798) (-299596)) = 985672
      ∧ ints (limitTriple (tri 611177 (-149798) (-299596)) 589824).1 = (365721, -89637, -179274) := by
  decide +kernel

/-! ## Line, ring and streamer (07, 08) -/

/-- R118: three steps from the seed of a serial with low half 0, and a draw of four bits. -/
theorem test_random_source :
    lfsrSeed 65536 = 0xACE1#16 ∧ lfsrStep 0xACE1#16 = 0x5670#16 ∧ lfsrStep 0x5670#16 = 0xAB38#16
      ∧ lfsrStep 0xAB38#16 = 0x559C#16 ∧ drawValue 0x559C#16 4 = 12 := by decide +kernel

/-- The limited triple of section 5.5. -/
def played : Triple := tri 365721 (-89637) (-179274)

/-- Section 8.6. -/
theorem test_samples_of_section_8_6 :
    samples (phaseSamples played 0) = (186447, -170851, -15596)
      ∧ outputs (outputValues (.playing played) 0) = (728, -667, -61)
      ∧ samples (phaseSamples (scaleTriple played 2048) 0) = (5826, -5339, -487)
      ∧ outputs (outputValues (.ramping played) 0) = (23, -21, -2)
      ∧ outputs (outputValues (.ramping played) 31) = outputs (outputValues (.playing played) 31) := by
  decide +kernel

/-- Section 8.7, both accounts: the streamer over four boundaries. -/
theorem test_boundaries_of_section_8_7 :
    ((Play.playing played).onNone, (Play.playing played).onNone.onNormal .zero,
        (Play.playing played).onNone.onNone, (Play.playing played).onNone.onNone.onNormal .zero)
      = (.holding played, .playing .zero, .fading played, .ramping .zero) := rfl

/-! ## States for the witnesses -/

/-- A result of a step as a state. -/
def after : Result → State
  | .next t => t
  | .fault _ => .reset
  | .refused _ => .reset

def quiet : Phases Code := ⟨0, 0, 0⟩
def codes0 : Channels Code := ⟨quiet, quiet, quiet⟩

/-- SETUP, entered at the end of the power-on wait. -/
def setupState : State := State.reset.endWait true

/-- LISTEN, just entered with the values of `v0`. -/
def listening : State :=
  { setupState with pins := { setupState.pins with spiSelect := false, spiSent := [] } }.enterListen v0

/-- The record of a scan of cycle index `n` that read zero everywhere and passed its check. -/
def scanned (n : Nat) : ScanRecord :=
  scanRecord ⟨BitVec.ofNat 6 n, codes0⟩ (if n % 2 = 0 then 29491 else code (-29491))

/-- A record at cycle index 16, where the sine is 8,388,607 and the cosine 0, with voltage a at full scale. -/
def record (load : Int) : ScanRecord :=
  scanRecord ⟨16, ⟨⟨code load, 0, 0⟩, ⟨32767, 0, 0⟩, quiet⟩⟩ 29491

/-- The fields of a frame of station `i`, of serial `n`. -/
def fields (i : Fin 8) (n : BitVec 32) : FrameFields :=
  { group := 1, id := i, adjusted := false, serial := n, sequence := 7, state := .active, causes := .none
    conflictSeen := false, flags := ⟨false, false, false, false, false⟩, headroom := 4608
    e := tri 300000 (-87000) (-174000), d := tri 900000 (-240000) (-480000), counters := ⟨0, 0, 0, 0⟩ }

def frame (i : Fin 8) (n : BitVec 32) : Received := ⟨frameBody (fields i n), 11⟩

def entry (i : Fin 8) (stamp : Num) : PeerEntry :=
  { id := i, state := .active, headroom := 4608, e := tri 300000 (-87000) (-174000), d := .zero
    unusable := false, stamp := stamp }

/-- An ACTIVE, counted station in interval 11: run 10 in flight, a frame in BACKOFF, a body coming into bank
A, the merge of bank B in hand, a triple playing from slot 1. -/
def rich : State :=
  { listening with
    station := { listening.station with state := .active, announced := true, told := 4608, listenCount := 8 }
    acq :=
      { running := true, load := 7704, scan := some ⟨3, codes0⟩, next := 4, closeNumber := 10
        failStreak := 0, passStreak := 64, faulty := false }
    store :=
      ⟨⟨.filling, 3, (List.range 3).map scanned⟩, ⟨.ready 9, 32, (List.range 32).map scanned⟩,
       ⟨.ready 10, 32, (List.range 32).map fun n => scanned (32 + n)⟩⟩
    sync :=
      { lock := .locked, trim := 4, trimFreq := some .hz50, period := 7704, lockStreak := 8
        slipStreak := 0, dipStreak := 0 }
    engine := ⟨some ⟨10, .b, .c, 4608⟩, false⟩
    history := history47
    xcheck := ⟨0, 1, false⟩
    corr := ⟨tri 25000 0 0, 3⟩
    peers := ⟨[entry 2 10, entry 5 9], view47, 3, .merge .b⟩
    line :=
      { contention := .backoff, slot := some (shareFrame (fields 1 1000)), nb := 1, be := 3, mark := false
        wait := 5, lfsr := 0x5670, busy := true, rx := .body .a, bankA := .receiving
        bankB := .merging (frame 2 2000), lastClaimed := .a, order := [.b], badFrames := 255
        sendMissed := 1, rxOverruns := 0 }
    plan := ⟨.empty, .playing ⟨11, .normal, played⟩, .empty, .empty, 1, some played⟩
    streamer := ⟨.playing played, 3⟩
    link :=
      { running := true, seq := 6, word := some (refWord (.playing played) 5 ⟨728, 0, 0⟩), answered := false
        expiryDue := false, status := some ⟨true, 200⟩, silence := 2, lost := false, tripLatch := false, snapshot := 200 }
    sequence := 7
    pending := [.mergeCompletion] }

/-- What ReceiveSound says of one bank. -/
abbrev ReceiveAt (s : State) (i : RxId) : Prop :=
  (s.line.bank i = .receiving ↔ s.line.rx.filling = some i)
    ∧ (i ∈ s.line.order ↔ (s.line.bank i).isHeld = true)
    ∧ ((s.line.bank i).isMerging = true ↔ s.peers.work = .merge i)
    ∧ (s.peers.work = .merge i → s.line.order.head? = some i)

/-- What it says of the controller as a whole. -/
abbrev ReceiveAll (s : State) : Prop :=
  (s.line.rx.filling ≠ none → s.line.busy = true) ∧ s.line.order.Nodup
    ∧ (s.peers.work = .idle → s.line.order = []) ∧ (s.line.contention = .sending → s.line.rx = .off)
    ∧ (s.station.state.live = false → s.peers.work = .idle ∧ s.line.rx = .off)

/-- ReceiveSound, bank by bank. -/
theorem receiveSound_of {s : State} (h : ReceiveAt s .a ∧ ReceiveAt s .b ∧ ReceiveAll s) :
    ReceiveSound s := by
  obtain ⟨⟨a1, a2, a3, a4⟩, ⟨b1, b2, b3, b4⟩, r1, r2, r3, r4, r5⟩ := h
  refine ⟨fun i => ?_, r1, r2, fun i => ?_, fun i => ?_, fun i => ?_, r3, r4, r5⟩ <;> cases i <;>
    assumption

theorem rich_ReceiveSound : ReceiveSound rich := receiveSound_of (by decide)

theorem rich_RingLaw : RingLaw rich := by
  refine ⟨?_, ?_, ?_⟩
  · intro i
    match i with
    | 0 => exact trivial
    | 1 => exact ⟨by decide, rfl⟩
    | 2 => exact trivial
    | 3 => exact trivial
  · intro r h
    obtain rfl : _ = r := Option.some.inj h
    decide
  · exact fun _ => ⟨1, _, rfl⟩

theorem rich_StoreLaw : StoreLaw rich := by
  refine fun _ => ⟨⟨.a, by decide, by decide, Bank.holds_iff.mpr (by decide), ?_⟩, by decide, ?_, ?_, ?_, ?_⟩
  · intro j; cases j <;> decide
  · intro i n h
    cases i
    · cases h
    · cases h; exact ⟨rfl, Bank.holds_iff.mpr (by decide)⟩
    · cases h; exact ⟨rfl, Bank.holds_iff.mpr (by decide)⟩
  · intro sc h
    obtain rfl : _ = sc := Option.some.inj h
    decide
  · intro r h
    obtain rfl : _ = r := Option.some.inj h
    decide
  · exact fun h => absurd h (by decide)

theorem rich_SyncSound : SyncSound rich := by
  refine ⟨by decide, ?_, fun _ => ⟨v0, by decide⟩⟩
  intro f h
  obtain rfl : _ = f := Option.some.inj h
  decide

theorem rich_PlanBounded : PlanBounded rich := by
  refine ⟨?_, ?_, ?_⟩
  · intro i p h
    match i with
    | 0 => exact absurd h (by simp [rich, PlanRing.slot])
    | 1 =>
      obtain rfl : p = ⟨11, .normal, played⟩ := by simpa [rich, PlanRing.slot, eq_comm] using h
      unfold TripleBounded; decide +kernel
    | 2 => exact absurd h (by simp [rich, PlanRing.slot])
    | 3 => exact absurd h (by simp [rich, PlanRing.slot])
  all_goals
    intro x h
    obtain rfl : _ = x := Option.some.inj h
    unfold TripleBounded; decide +kernel

theorem rich_SetupSound : SetupSound rich := by
  refine ⟨?_, fun _ => rfl⟩
  intro v h
  obtain rfl : v0 = v := Option.some.inj h
  unfold SetupInRange; decide

theorem rich_CorrectionSound : CorrectionSound rich := by
  refine ⟨fun h => absurd rfl h, ?_, by decide⟩
  intro v h
  obtain rfl : v0 = v := Option.some.inj h
  unfold PartWithin; decide

theorem rich_PeersSound : PeersSound rich := by
  refine ⟨by decide, ?_, by decide⟩
  intro v h
  obtain rfl : v0 = v := Option.some.inj h
  decide

theorem rich_AnnounceSound : AnnounceSound rich := by
  refine ⟨?_, by decide⟩
  intro f h
  obtain rfl : _ = f := Option.some.inj h
  decide +kernel

theorem rich_RestsInOff : RestsInOff rich := fun h => absurd h (by decide)
theorem rich_CountedOnlyActive : CountedOnlyActive rich := fun _ _ _ => rfl
theorem rich_IdleOutside : IdleOutside rich := fun h => absurd rfl h
theorem rich_ContentionSound : ContentionSound rich := by unfold ContentionSound; decide +kernel
theorem rich_CountersBounded : CountersBounded rich := by unfold CountersBounded; decide
theorem rich_StreaksBounded : StreaksBounded rich := by unfold StreaksBounded; decide
theorem rich_SilenceSound : SilenceSound rich := by unfold SilenceSound; decide
theorem rich_RandomSound : RandomSound rich := by unfold RandomSound; decide
theorem rich_RunsOnlyLive : RunsOnlyLive rich := by unfold RunsOnlyLive; decide

theorem setup_RestsInOff : RestsInOff setupState := by unfold RestsInOff; decide

/-! ## Witnesses: the machine, supply and setup -/

/-- `rich` with its slot empty, so that run 10 can complete. -/
def ready : State := { rich with line := { rich.line with contention := .quiet, slot := none } }

/-- `ready` whose window holds a bus voltage in phase and a load of `n`; bank C adds the load alone. -/
def voltage (n : Int) : State :=
  { ready with
    store := { ready.store with b := { ready.store.b with records := List.replicate 32 (record n) } } }

/-- `rich` at the end of a scan of cycle index `n`, with no run in flight and work `w`. -/
def scanEnd (n : BitVec 6) (w : TableWork) : State :=
  { rich with
    acq := { rich.acq with scan := some ⟨n, codes0⟩, next := n + 1 }
    engine := ⟨none, false⟩
    peers := { rich.peers with work := w } }

/-- The copy of a close whose view is empty. -/
def copyWork : TableWork := .copy ⟨[], false⟩

/-- Each of the five stops is reached. -/
theorem witness_StopsOnlyOnExcludedOrders :
    exec (.sampleTimerExpiry codes0) rich = .fault .expiryDuringScan
      ∧ exec (.scanCompletion 29491 false) { scanEnd 31 .idle with engine := rich.engine }
          = .fault .closeDuringRun
      ∧ exec (.scanCompletion 29491 false) (scanEnd 63 copyWork) = .fault .closeDuringCopy
      ∧ exec .runCompletion { rich with peers := { rich.peers with work := copyWork } }
          = .fault .completionDuringCopy
      ∧ exec .runCompletion rich = .fault .slotOccupied := ⟨rfl, rfl, rfl, rfl, rfl⟩

/-- `setupState` waits for nothing but the read. -/
theorem witness_UnawaitedEventsChangeNothing :
    setupState.station.waiting = false ∧ setupState.pins.resetAsserted = false
      ∧ setupState.pins.resetN = true ∧ State.reset.station.state ≠ .setup
      ∧ setupState.acq.running = false ∧ setupState.acq.scan = none ∧ setupState.engine.run = none
      ∧ (∀ w, setupState.peers.work ≠ .copy w) ∧ (∀ i, setupState.peers.work ≠ .merge i)
      ∧ setupState.link.running = false ∧ setupState.station.state.live = false
      ∧ setupState.line.contention = .quiet ∧ setupState.line.rx = .off :=
  ⟨rfl, rfl, rfl, by decide, rfl, rfl, rfl, nofun, nofun, rfl, rfl, rfl, rfl⟩

/-- Run 10 completes in LISTEN with count 7, in ACTIVE with the trip latch set, and in HOLD with count 3. -/
def entering : State :=
  { voltage 0 with station := { rich.station with state := .listen, announced := false, listenCount := 7 } }
def tripped : State := { voltage 0 with link := { rich.link with tripLatch := true } }
def holding : State :=
  { voltage 0 with station := { rich.station with state := .hold, announced := false, reentryCount := 3 } }

/-- Every arrow of the state graph is taken. -/
theorem witness_StateGraph :
    (after (exec (.endOfPowerOnWait true) .reset)).station.state = .setup
      ∧ (after (exec (.setupReadCompletion image0) setupState)).station.state = .listen
      ∧ (after (exec (.setupReadCompletion imageZero) setupState)).station.state = .fault
      ∧ (after (exec .runCompletion entering)).station.state = .active
      ∧ (after (exec .runCompletion tripped)).station.state = .hold
      ∧ (after (exec .runCompletion holding)).station.state = .active
      ∧ (after (exec .resetLineAssertion rich)).station.state = .off := by decide +kernel

/-- The station's own frame with a lower serial, at the end of its merge. -/
def conflicting (n : BitVec 32) : State :=
  { rich with line := { rich.line with bankB := .merging (frame 1 n) } }

theorem witness_StateGraph_sound :
    ReceiveSound State.reset ∧ ReceiveSound setupState ∧ ReceiveSound entering ∧ ReceiveSound tripped
      ∧ ReceiveSound holding ∧ ReceiveSound (conflicting 1000)
      ∧ (after (exec .mergeCompletion (conflicting 1000))).station.state = .fault := by
  refine ⟨?_, ?_, ?_, ?_, ?_, ?_, by decide +kernel⟩ <;> exact receiveSound_of (by decide +kernel)

/-- OFF with an assertion standing, and OFF in a short low spell that outlasted the wait. -/
def asserted (waiting : Bool) : State :=
  { State.reset with
    pins := ⟨true, false, true, false, []⟩, station := { Station.reset with waiting := waiting } }
def lowSpell : State := after (exec (.endOfPowerOnWait false) .reset)

theorem witness_OffIsLeftForSetup :
    (State.reset.station.state = .off ∧ State.reset.station.waiting = true
        ∧ State.reset.pins.resetAsserted = false)
      ∧ (∀ w, (asserted w).station.state = .off ∧ (asserted w).station.waiting = w
        ∧ (asserted w).pins.supplyGood = true ∧ (asserted w).pins.resetAsserted = true)
      ∧ lowSpell.station.state = .off ∧ lowSpell.pins.supplyGood = true
      ∧ lowSpell.pins.resetAsserted = false ∧ lowSpell.pins.resetN = false
      ∧ lowSpell.station.waiting = false :=
  ⟨⟨rfl, rfl, rfl⟩, fun _ => ⟨rfl, rfl, rfl, rfl⟩, rfl, rfl, rfl, rfl, rfl⟩

theorem witness_ResetLineAssertionValues :
    rich.pins.supplyGood = true ∧ rich.sync.trim = 4 ∧ rich.sync.trimFreq = some .hz50 :=
  ⟨rfl, rfl, rfl⟩

theorem witness_SetupImageFields :
    (readImage image0).isSome = true ∧ (readImage imageOut).isSome = true
      ∧ (readImage imageTop).isSome = true ∧ (readImage imageZero).isSome = false := by decide +kernel

/-- A warm SETUP, with the trim formed at 50 Hz. -/
def warmSetup : State := { setupState with sync := { setupState.sync with trim := -160, trimFreq := some .hz50 } }

theorem witness_SetupReadEnds :
    warmSetup.station.state = .setup ∧ (∃ v, readImage image0 = some v ∧ v.freq = .hz50)
      ∧ (∃ v, readImage imageOut = some v ∧ v.freq = .hz60 ∧ v.serial.extractLsb' 0 16 = 0)
      ∧ setupState.station.state = .setup ∧ RestsInOff setupState ∧ readImage imageZero = none :=
  ⟨rfl, ⟨v0, test_image_in_range, rfl⟩, ⟨_, test_image_out_of_range, rfl, rfl⟩, rfl, setup_RestsInOff,
    test_image_undriven.1⟩

theorem witness_RestsInOffKept :
    ∃ t, RestsInOff { setupState with pending := [.setupReadCompletion imageZero] }
      ∧ step { setupState with pending := [.setupReadCompletion imageZero] } = .next t :=
  ⟨_, setup_RestsInOff, rfl⟩

/-- The invariants hold together in `rich`, and its step answers a next state: the witness of every statement
that says a step keeps one of them. -/
theorem witness_invariants_kept :
    RestsInOff rich ∧ RunsOnlyLive rich ∧ SetupSound rich ∧ AnnounceSound rich ∧ CountersBounded rich
      ∧ StreaksBounded rich ∧ StoreLaw rich ∧ SyncSound rich ∧ CountedOnlyActive rich
      ∧ CorrectionSound rich ∧ PeersSound rich ∧ ContentionSound rich ∧ RandomSound rich
      ∧ ReceiveSound rich ∧ RingLaw rich ∧ PlanBounded rich ∧ IdleOutside rich ∧ SilenceSound rich
      ∧ ∃ t, step rich = .next t :=
  ⟨rich_RestsInOff, rich_RunsOnlyLive, rich_SetupSound, rich_AnnounceSound, rich_CountersBounded,
    rich_StreaksBounded, rich_StoreLaw, rich_SyncSound, rich_CountedOnlyActive, rich_CorrectionSound,
    rich_PeersSound, rich_ContentionSound, rich_RandomSound, rich_ReceiveSound, rich_RingLaw,
    rich_PlanBounded, rich_IdleOutside, rich_SilenceSound, _, rfl⟩

/-! ## Witnesses: acquisition and the window close -/

/-- R7: the ends of both windows, and one code outside each. -/
theorem test_check_limits :
    (checkPasses 0 (code 29163), checkPasses 62 (code 29819), checkPasses 0 (code 29162),
        checkPasses 0 (code 29820)) = (true, true, false, false)
      ∧ (checkPasses 1 (code (-29163)), checkPasses 63 (code (-29819)), checkPasses 1 (code (-29162)),
        checkPasses 1 (code (-29820))) = (true, true, false, false) := by decide +kernel

/-- R6: the two codes at the ends, and their neighbours. -/
theorem test_over_range_codes :
    [code 32767, code (-32768), code 32766, code (-32767)].map overRangeFlag = [true, true, false, false] := by
  decide

/-- `rich` between two scans, with the silence counter at `n`. -/
def betweenScans (n : Nat) : State :=
  { rich with acq := { rich.acq with scan := none }, link := { rich.link with silence := n } }

/-- One expiry that declares silence, at counter 63, and one at 62 that does not. -/
theorem witness_SampleTimerExpiryEffect :
    (∀ n, (betweenScans n).acq.running = true ∧ (betweenScans n).acq.scan = none)
      ∧ (betweenScans 62).link.declares = false ∧ (betweenScans 63).link.declares = true :=
  ⟨fun _ => ⟨rfl, rfl⟩, by decide, by decide⟩

theorem rich_filling (j : BankId) : (rich.store.get j).state = .filling ↔ j = .a := by
  cases j <;> decide

/-- The send deadline and the close, and the scans beside them, in both halves of a cycle. -/
theorem witness_ScanCompletionStoresRecord :
    ∀ n ∈ [0#6, 18#6, 19#6, 20#6, 30#6, 31#6, 32#6, 50#6, 51#6, 52#6, 62#6, 63#6],
      (scanEnd n .idle).acq.scan = some ⟨n, codes0⟩ ∧ (scanEnd n .idle).station.setup.isSome = true
        ∧ (∀ j, ((scanEnd n .idle).store.get j).state = .filling ↔ j = .a)
        ∧ ((scanEnd n .idle).store.get .a).fill ≤ ((scanEnd n .idle).store.get .a).records.length
        ∧ (n.toNat % 32 = 31 →
            (scanEnd n .idle).engine.run = none ∧ ∀ w, (scanEnd n .idle).peers.work ≠ .copy w) :=
  fun _ _ => ⟨rfl, rfl, rich_filling, Nat.le_refl 3, fun _ => ⟨rfl, nofun⟩⟩

/-- The close writes its record too: position 31 of the odd interval, at fill count 3 of this state. -/
theorem test_close_writes_record :
    let t := after (exec (.scanCompletion (code (-29491)) false) (scanEnd 31 .idle))
    ((t.store.a.records[3]?).map fun r => (r.index.toNat, r.pass)) = some (31, true)
      ∧ t.store.a.fill = 4 ∧ t.store.a.state = .ready 11 := by decide +kernel

/-- R8: two failures leave the flag, three set it, and 64 passes clear it. -/
theorem witness_FrontEndFlagStreaks :
    (63 < 64)
      ∧ ([false, false].foldl Acquisition.checked .reset).faulty = false
      ∧ ((List.replicate 63 true).foldl Acquisition.checked { Acquisition.reset with faulty := true }).faulty
          = true := by decide +kernel

/-- The four contentions at the deadlines of both halves. -/
theorem witness_SendDeadline (c : Contention) :
    ∀ n ∈ [19#6, 51#6],
      let s := { scanEnd n .idle with line := { rich.line with contention := c } }
      s.acq.scan = some ⟨n, codes0⟩ ∧ s.station.setup.isSome = true ∧ n.toNat % 32 = 19
        ∧ s.line.contention = c := by
  intro n h
  exact ⟨rfl, rfl, by revert n; decide, rfl⟩

/-- A close with a merge in hand and one with the table idle; the entry of age 64 and that of age 65. -/
theorem witness_WindowCloseEffect :
    (∀ w ∈ [TableWork.idle, .merge .b],
      ∀ n ∈ [31#6, 63#6],
        (scanEnd n w).acq.scan = some ⟨n, codes0⟩ ∧ (scanEnd n w).station.setup = some v0
          ∧ n.toNat % 32 = 31 ∧ (scanEnd n w).engine.run = none
          ∧ ∀ x, (scanEnd n w).peers.work ≠ .copy x)
      ∧ (purge 100 [entry 2 36, entry 3 35]).map (fun e => e.id) = [2] := by
  refine ⟨fun w h n g => ⟨rfl, rfl, by revert n; decide, rfl, ?_⟩, by decide⟩
  fin_cases h <;> nofun

/-- A close after which run k starts: bank B free, bank C READY; and the first close, with none READY. -/
def closing (c : BankState) : State :=
  { scanEnd 31 .idle with store := ⟨rich.store.a, { rich.store.b with state := .free },
      { rich.store.c with state := c }⟩ }

theorem witness_CloseRotatesBanks :
    (∀ c ∈ [BankState.ready 10, .free],
      (closing c).acq.scan = some ⟨31, codes0⟩ ∧ (closing c).station.setup.isSome = true
        ∧ (closing c).engine.run = none ∧ (∀ w, (closing c).peers.work ≠ .copy w)
        ∧ ∀ j, ((closing c).store.get j).state = .filling ↔ j = .a)
      ∧ (∀ m, ((closing (.ready 10)).store.get m).state = .free → m = .b)
      ∧ (∀ m n, ((closing (.ready 10)).store.get m).state = .ready n → m = .c)
      ∧ ((closing .free).store.get .b).state = .free ∧ ((closing .free).store.get .c).state = .free
      ∧ ∀ j n, ((closing .free).store.get j).state ≠ .ready n := by
  refine ⟨fun c h => ⟨rfl, rfl, rfl, nofun, fun j => ?_⟩, fun m => ?_, fun m n => ?_, rfl, rfl,
    fun j n => ?_⟩
  · fin_cases h <;> cases j <;> decide
  · cases m <;> decide
  · cases m <;> intro h <;> cases h
    rfl
  · cases j <;> nofun

/-- `scanEnd 31` with a PENDING slot of target `n` and mode `m`, and the streamer at `p`. -/
def boundaryState (n : Num) (m : PlanMode) (p : Play) : State :=
  { scanEnd 31 .idle with
    plan := { rich.plan with slot2 := .pending ⟨n, m, played⟩, writeIndex := 2 }
    streamer := ⟨p, 255⟩ }

theorem boundaryState_pending {n : Num} {m : PlanMode} {p : Play} {j : Fin 4} {q : Plan}
    (h : (boundaryState n m p).plan.slot j = .pending q) : j = 2 ∧ q = ⟨n, m, played⟩ := by
  match j with
  | 0 => cases h
  | 1 => cases h
  | 2 => cases h; exact ⟨rfl, rfl⟩
  | 3 => cases h

/-- Both modes of slot at the boundary of close 11, and a boundary that finds none, in every streamer state. -/
theorem witness_CloseMovesStreamer (m : PlanMode) (p : Play) (n : Num) :
    (boundaryState n m p).acq.scan = some ⟨31, codes0⟩
      ∧ (boundaryState n m p).station.setup.isSome = true ∧ (boundaryState n m p).engine.run = none
      ∧ (∀ w, (boundaryState n m p).peers.work ≠ .copy w)
      ∧ (n = 12 → ∃ i q, (boundaryState n m p).plan.slot i = .pending q
          ∧ q.target = (boundaryState n m p).acq.closeNumber + 2 ∧ q.mode = m
          ∧ ∀ j r, (boundaryState n m p).plan.slot j = .pending r → j = i)
      ∧ (n ≠ 12 → ∀ i q, (boundaryState n m p).plan.slot i = .pending q →
          q.target ≠ (boundaryState n m p).acq.closeNumber + 2) := by
  refine ⟨rfl, rfl, rfl, nofun, ?_, ?_⟩
  · rintro rfl
    exact ⟨2, _, rfl, rfl, rfl, fun j r h => (boundaryState_pending h).1⟩
  · intro h i q g
    rw [(boundaryState_pending g).2]
    exact h

/-- The step, a run of even number, whose window begins with an odd interval, and the FILLING bank. -/
theorem witness_StoreLawKept :
    (∃ t, RestsInOff rich ∧ StoreLaw rich ∧ step rich = .next t)
      ∧ rich.station.state.live = true ∧ rich.engine.run = some ⟨10, .b, .c, 4608⟩
      ∧ (0 < 64 ∧ 63 < 64)
      ∧ (((rich.store.recordsOf ⟨10, .b, .c, 4608⟩).map fun r => r.index.toNat) = List.range 64) :=
  ⟨⟨_, rich_RestsInOff, rich_StoreLaw, rfl⟩, rfl, rfl, by decide, by decide +kernel⟩

/-! ## Witnesses: synchronizer and arithmetic -/

/-- `ready` with a bus voltage in 29 records, `n` codes of it in three records a quarter cycle away, and the lock
state and streaks given: the phase error is 65,536 × 3n / (29 × 32,767), truncated. -/
def locking (n : Int) (l : Lock) (x y z : Nat) : State :=
  { ready with
    store := { ready.store with
      b := { ready.store.b with
        records :=
          List.replicate 3 (scanRecord ⟨0, ⟨quiet, ⟨code n, 0, 0⟩, quiet⟩⟩ 29491)
            ++ List.replicate 29 (record 0) } }
    sync := { rich.sync with lock := l, lockStreak := x, slipStreak := y, dipStreak := z } }

/-- Run 10 as a voltage run and as a dip run, in every lock state. -/
theorem witness_SynchronizerUpdate_locks (n : Int) (l : Lock) (x y z : Nat) :
    (locking n l x y z).engine.run = some ⟨10, .b, .c, 4608⟩ ∧ (locking n l x y z).station.setup = some v0
      ∧ (locking n l x y z).station.state.live = true ∧ SyncSound (locking n l x y z)
      ∧ ∃ t, exec .runCompletion (locking n l x y z) = .next t :=
  ⟨rfl, rfl, rfl, rich_SyncSound, _, rfl⟩

/-- R27 to R29 with phase errors of 1,241, 2,069 and 6,779: the lock state and the three streaks after the
run. -/
theorem test_lock_transitions :
    ([(6000, Lock.acquiring, 7, 1, 3), (10000, .acquiring, 7, 1, 3), (10000, .locked, 8, 1, 3),
        (32767, .locked, 8, 0, 3), (32767, .locked, 8, 1, 3), (6000, .coasting, 8, 0, 7),
        (10000, .coasting, 8, 1, 7)].map fun q =>
        let y := (after (exec .runCompletion (locking q.1 q.2.1 q.2.2.1 q.2.2.2.1 q.2.2.2.2))).sync
        (y.lock, y.lockStreak, y.slipStreak, y.dipStreak))
      = [(.locked, 8, 0, 3), (.acquiring, 0, 1, 3), (.locked, 8, 0, 3), (.locked, 8, 1, 3),
         (.acquiring, 0, 2, 3), (.locked, 8, 0, 0), (.acquiring, 0, 1, 0)] := by decide +kernel

/-- Run 10 as a voltage run and as a dip run. -/
theorem witness_SynchronizerUpdate :
    ∀ s ∈ [voltage 0, ready], s.engine.run = some ⟨10, .b, .c, 4608⟩ ∧ s.station.setup = some v0
      ∧ s.station.state.live = true ∧ SyncSound s ∧ ∃ t, exec .runCompletion s = .next t := by
  intro s h
  fin_cases h <;> exact ⟨rfl, rfl, rfl, rich_SyncSound, _, rfl⟩

theorem witness_SynchronizerUpdate_runs :
    (v0.vmin : Int) ≤ (measureWindow ((voltage 0).store.recordsOf ⟨10, .b, .c, 4608⟩)).v1.re.toInt
      ∧ (measureWindow (ready.store.recordsOf ⟨10, .b, .c, 4608⟩)).v1.re.toInt < (v0.vmin : Int) := by
  decide +kernel

/-- Eight counted runs; one of the two boundary errors; slips at 5,243 and beyond; eight dips and nine. -/
theorem witness_LockAcquisitionAndCoasting :
    Synchronizer.reset.lock = .unlocked ∧ (List.replicate 8 1311).length = 8
      ∧ (∀ x ∈ List.replicate 8 1311, x ≤ 1311) ∧ rich.sync.lock = .locked
      ∧ (List.replicate 7 0).length ≤ 7 ∧ 1311 < 1312 ∧ 5243 < 5244 ∧ rich.sync.slipStreak = 0
      ∧ ({ rich.sync with lock := .acquiring, lockStreak := 7 } : Synchronizer).lock = .acquiring
      ∧ ([5244, 5244].foldl Synchronizer.onVoltage rich.sync).lock = .acquiring
      ∧ ([5244, 5243, 5244].foldl Synchronizer.onVoltage rich.sync).lock = .locked
      ∧ ((List.replicate 9 1311).foldl Synchronizer.onVoltage .reset).lock = .locked
      ∧ ((1311 :: 1312 :: List.replicate 7 1311).foldl Synchronizer.onVoltage .reset).lock = .acquiring
      ∧ (Nat.repeat Synchronizer.onDip 8 rich.sync).lock = .coasting
      ∧ (Nat.repeat Synchronizer.onDip 9 rich.sync).lock = .unlocked := by decide +kernel

/-- `rich` at 60 Hz with trim, period and load at ends of their ranges. -/
def rich60 : State :=
  { rich with
    station := { rich.station with setup := some { v0 with freq := .hz60 } }
    sync := { rich.sync with trim := -133, trimFreq := some .hz60, period := 6203 }
    acq := { rich.acq with load := 6597 } }

theorem rich60_SyncSound : SyncSound rich60 := by
  refine ⟨by decide, ?_, fun _ => ⟨_, rfl, by decide⟩⟩
  intro f h
  obtain rfl : _ = f := Option.some.inj h
  decide

theorem witness_SyncSoundKept :
    (SyncSound rich ∧ ∃ t, step rich = .next t)
      ∧ (-trimLimit v0.freq ≤ (-160 : Int) ∧ (160 : Int) ≤ trimLimit v0.freq)
      ∧ (rich.station.state.live = true ∧ rich.station.setup = some v0)
      ∧ SyncSound rich60 ∧ rich60.station.state.live = true
      ∧ rich60.station.setup = some { v0 with freq := .hz60 } :=
  ⟨⟨rich_SyncSound, _, rfl⟩, by decide, ⟨rfl, rfl⟩, rich60_SyncSound, rfl, rfl⟩

/-- R45 truncates toward zero; R46 holds at 65,535. -/
theorem witness_ScaleAndDivide16 :
    (scale (fr (-7)) 32768).toInt = -3 ∧ (scale (fr 8388607) 65535).toInt = 8388479
      ∧ divide16 1 3 = 21845 ∧ divide16 3 3 = 65535 ∧ divide16 4 3 = 65535 ∧ (0 < 3) ∧ 65535 ≤ 65535 := by
  decide +kernel

theorem witness_MNormBounds :
    (4 : Int).natAbs = 2 * (-2 : Int).natAbs ∧ (-2 : Int).natAbs % 2 = 0 ∧ mnorm 4 (-2) = 5 := by decide

/-- R43: halves go to the even code on both sides of zero, and saturation is reported. -/
theorem witness_ReduceRoundsHalfEven :
    (reduce (2 ^ 22)).val.toInt = 0 ∧ (reduce (3 * 2 ^ 22)).val.toInt = 2
      ∧ (reduce (-(2 ^ 22))).val.toInt = 0 ∧ (reduce (-3 * 2 ^ 22)).val.toInt = -2
      ∧ (reduce (2 ^ 46)).sat = true ∧ (reduce (8388607 * 2 ^ 23)).sat = false
      ∧ (reduceAt 28 (3 * 2 ^ 27)).val.toInt = 2 ∧ (23 = 23 ∨ 23 = 28) ∧ (28 = 23 ∨ 28 = 28) := by
  decide +kernel

/-- Load records that saturate the positive-sequence imaginary part below. -/
def lowLoad : List ScanRecord :=
  List.replicate 32 (scanRecord ⟨0, ⟨⟨code (-32768), 32767, 32767⟩, quiet, quiet⟩⟩ 29491)
    ++ List.replicate 32 (scanRecord ⟨16, ⟨⟨0, code (-32768), 32767⟩, quiet, quiet⟩⟩ 29491)

theorem witness_NegationAndSaturatingAdd :
    (positiveSequence (extractSet lowLoad fun r => r.codes.load)).im = 0x800000#24
      ∧ (measureWindow lowLoad).saturated = true ∧ (fr (-8388607)) ≠ 0x800000#24
      ∧ (negate (fr (-8388607))).val.toInt = 8388607
      ∧ (satAdd (fr 8388607) (fr 1)).toInt = 8388607 ∧ (satAdd (fr (-8388608)) (fr (-1))).toInt = -8388608 := by
  decide +kernel

theorem witness_NegationAndSaturatingAdd_run :
    (voltage 0).engine.run = some ⟨10, .b, .c, 4608⟩ ∧ (voltage 0).station.state.live = true
      ∧ (voltage 0).station.setup.isSome = true ∧ ∃ t, exec .runCompletion (voltage 0) = .next t :=
  ⟨rfl, rfl, rfl, _, rfl⟩

theorem witness_OffsetAndZeroSequence :
    clipped37.length = 64 ∧ (clipped37.map fun r => r.index).Nodup
      ∧ (∀ r ∈ clipped37, (code 5).toInt = (r.codes.load.b).toInt + 5)
      ∧ clipped37.Perm clipped37.reverse
      ∧ load36.a.re.toInt + load36.b.re.toInt + load36.c.re.toInt = 0
      ∧ (fr 6).toInt = (fr 4).toInt + 2 :=
  ⟨by decide +kernel, by decide +kernel, by decide +kernel, (List.reverse_perm _).symm, by decide, by decide⟩

/-! ## Witnesses: cross-check, correction, share, plan slot -/

/-- A view whose two peers are far from the own demand, and one that is not judged. -/
def farView : View := ⟨[peer 2 (tri 900000 0 0) .zero 0, peer 5 (tri 900000 0 0) .zero 0], true⟩

theorem witness_CrossCheckAtCompletion :
    (∀ w ∈ [view47, farView, ⟨[], false⟩], ∀ st ∈ [StationState.active, .fault],
      let s := { ready with
        station := { ready.station with state := st }, peers := { ready.peers with view := w } }
      s.engine.run = some ⟨10, .b, .c, 4608⟩ ∧ s.station.setup = some v0 ∧ (∀ x, s.peers.work ≠ .copy x)
        ∧ ((s.station.state.live = true ∧ s.line.slot = none) ∨ s.station.state = .fault))
      ∧ [view47, farView, ⟨[], false⟩].map (judge v0.tx 10 history47)
          = [.agreed, .outvoted, .notJudged] := by
  refine ⟨fun w _ st h => ⟨rfl, rfl, nofun, ?_⟩, by decide +kernel⟩
  fin_cases h
  · exact .inl ⟨rfl, rfl⟩
  · exact .inr rfl

/-- Seven and eight outcomes of a kind with unjudged ones among them. -/
theorem witness_CrossCheckAtCompletion_counts :
    (∀ w ∈ Verdict.notJudged :: List.replicate 8 Verdict.outvoted, w ≠ .agreed)
      ∧ 8 ≤ (Verdict.notJudged :: List.replicate 8 Verdict.outvoted).count .outvoted
      ∧ (∀ w ∈ Verdict.notJudged :: List.replicate 8 Verdict.agreed, w ≠ .outvoted)
      ∧ 8 ≤ (Verdict.notJudged :: List.replicate 8 Verdict.agreed).count .agreed
      ∧ (∀ w ∈ List.replicate 9 Verdict.notJudged, w = .notJudged)
      ∧ (List.replicate 7 Verdict.agreed).count .agreed < 8
      ∧ (⟨8, 0, true⟩ : CrossCheck).flag = true := by decide

/-- Run 10 unfrozen and frozen by its settling count, in a station that stays ACTIVE, and in one that leaves. -/
def settling2 : State := { voltage 0 with corr := ⟨tri 25000 0 0, 2⟩ }

theorem witness_CorrectionAtCompletion :
    (∀ s ∈ [voltage 0, settling2, tripped],
      s.engine.run = some ⟨10, .b, .c, 4608⟩ ∧ s.station.setup = some v0 ∧ s.station.state.live = true
        ∧ SetupSound s ∧ ∃ t, exec .runCompletion s = .next t)
      ∧ (after (exec .runCompletion (voltage 0))).station.state = .active
      ∧ correctionFrozen 10 .locked history47 view47 (voltage 0).corr = false
      ∧ ints (after (exec .runCompletion (voltage 0))).corr.c = (33554, 0, 0)
      ∧ ints (after (exec .runCompletion settling2)).corr.c = (25000, 0, 0)
      ∧ (after (exec .runCompletion tripped)).corr = ⟨.zero, 0⟩ := by
  refine ⟨?_, by decide +kernel, by decide +kernel, by decide +kernel, by decide +kernel,
    by decide +kernel⟩
  intro s h
  fin_cases h <;> exact ⟨rfl, rfl, rfl, rich_SetupSound, _, rfl⟩

theorem witness_CorrectionSoundKept :
    ∃ t, RestsInOff rich ∧ CountedOnlyActive rich ∧ SetupSound rich ∧ CorrectionSound rich
      ∧ step rich = .next t :=
  ⟨_, rich_RestsInOff, rich_CountedOnlyActive, rich_SetupSound, rich_CorrectionSound, rfl⟩

/-- One station, two of equal headroom, and eight. -/
theorem witness_ShareFactorRule :
    ([4608].length = 1 ∧ 0 < [4608].sum) ∧ (2 ≤ (List.replicate 8 1).length ∧ (List.replicate 8 1).length ≤ 8
        ∧ 0 < (List.replicate 8 1).sum)
      ∧ view47.ownCounted = true ∧ (4608 : BitVec 16) ≠ 0
      ∧ shareFactor ⟨[], true⟩ 1 = 65535 ∧ shareFactor ⟨[], true⟩ 0 = 0 := by decide +kernel

/-- Run 10 writes a NORMAL slot for a load on phase a. -/
theorem witness_NormalSlotWithinLimit :
    (voltage 4915).engine.run = some ⟨10, .b, .c, 4608⟩ ∧ (voltage 4915).station.setup = some v0
      ∧ exec .runCompletion (voltage 4915) = .next (after (exec .runCompletion (voltage 4915)))
      ∧ (after (exec .runCompletion (voltage 4915))).plan.slot 2
          = .pending ⟨12, .normal, tri 11983 (-149792) 0⟩
      ∧ (voltage 4915).plan.slot 2 = .empty := ⟨rfl, rfl, rfl, by decide +kernel, rfl⟩

/-- The snapshot of run 10: whole, one, and none; and a window with a failed check. -/
def snapped (n : Byte) : State := { voltage 4915 with link := { rich.link with snapshot := n } }
def failedCheck : State :=
  { voltage 0 with
    store := { ready.store with
      b := { ready.store.b with records := { record 0 with pass := false } :: List.replicate 31 (record 0) } } }
def noLatest : State := { tripped with plan := { rich.plan with latest := none } }
def uncounted : State := { voltage 0 with peers := { rich.peers with view := { view47 with ownCounted := false } } }

theorem witness_PlanSlotWrite :
    ∀ s ∈ [snapped 200, snapped 1, snapped 0, failedCheck, tripped, noLatest, uncounted],
      s.engine.run = some ⟨10, .b, .c, 4608⟩ ∧ s.station.setup = some v0 ∧ s.station.state = .active
        ∧ ∃ t, exec .runCompletion s = .next t := by
  intro s h
  fin_cases h <;> exact ⟨rfl, rfl, rfl, _, rfl⟩

/-- What those runs write: unscaled, scaled, zero, nothing, a FADE, nothing, nothing. By R79 to R81 with
q = 23,406 and G = (33,554, -419,413, 0), of measure 161,775 after scaling, and L = 2,949 for a snapshot of 1. -/
theorem witness_PlanSlotWrite_cases :
    [snapped 200, snapped 1, snapped 0, failedCheck, tripped, noLatest, uncounted].map
        (fun s =>
          let t := after (exec .runCompletion s)
          (t.station.state, t.plan.writeIndex, t.plan.latest.map ints))
      = [(.active, 2, some (11983, -149792, 0)), (.active, 2, some (218, -2729, 0)),
         (.active, 2, some (0, 0, 0)), (.active, 1, some (365721, -89637, -179274)),
         (.hold, 2, some (365721, -89637, -179274)), (.hold, 1, none),
         (.active, 1, some (365721, -89637, -179274))] := by decide +kernel

/-! ## Witnesses: peer table, line controller, ring, link, run completion -/

/-- `rich` with a second frame waiting in bank A. -/
def waiting : State :=
  { rich with
    line := { rich.line with rx := .hunting, bankA := .full (frame 5 3000), order := [.b, .a] } }

theorem witness_MergeWritesEntry :
    (∀ s ∈ [rich, waiting], s.station.setup = some v0 ∧ s.peers.work = .merge .b
      ∧ s.line.bank .b = .merging (frame 2 2000) ∧ s.line.order.head? = some .b
      ∧ bodyState (frame 2 2000).body = some .active ∧ bodyId (frame 2 2000).body ≠ v0.id)
      ∧ rich.line.order.tail = [] ∧ waiting.line.order.tail = [RxId.b.other]
      ∧ waiting.line.bank RxId.b.other = .full (frame 5 3000) := by
  refine ⟨?_, rfl, rfl, rfl⟩
  intro s h
  fin_cases h <;> exact ⟨rfl, rfl, rfl, rfl, by decide +kernel, by decide +kernel⟩

/-- `conflicting` with a second frame waiting in bank A. -/
def conflictingWaiting (n : BitVec 32) : State :=
  { waiting with line := { waiting.line with bankB := .merging (frame 1 n) } }

/-- With a higher serial the waiting frame is taken (R95, R107). -/
theorem witness_MergeConflict_waiting :
    (conflictingWaiting 1001).station.setup = some v0 ∧ (conflictingWaiting 1001).peers.work = .merge .b
      ∧ (conflictingWaiting 1001).line.order.tail = [RxId.b.other]
      ∧ (conflictingWaiting 1001).line.bank RxId.b.other = .full (frame 5 3000)
      ∧ (after (exec .mergeCompletion (conflictingWaiting 1001))).peers.work = .merge .a :=
  ⟨rfl, rfl, rfl, rfl, by decide +kernel⟩

/-- A higher serial, an equal one, and a lower one, each one apart. -/
theorem witness_MergeConflict :
    ∀ n ∈ [1001#32, 1000#32, 999#32],
      (conflicting n).station.setup = some v0 ∧ (conflicting n).peers.work = .merge .b
        ∧ (conflicting n).line.bank .b = .merging (frame 1 n)
        ∧ (conflicting n).line.order.head? = some .b ∧ bodyId (frame 1 n).body = v0.id
        ∧ bodySerial (frame 1 n).body = n ∧ (conflicting n).line.order.tail = [] := by
  intro n h
  fin_cases h <;> exact ⟨rfl, rfl, rfl, rfl, by decide +kernel, by decide +kernel, rfl⟩

/-- A copy that ends with no frame waiting, and with one. -/
def copying (l : LineController) : State :=
  { rich with line := l, peers := { rich.peers with work := copyWork } }

theorem witness_ViewCopyEnds :
    (copying listening.line).peers.work = .copy ⟨[], false⟩
      ∧ (copying listening.line).line.order = []
      ∧ (copying { waiting.line with bankB := .full (frame 2 2000) }).line.order = [.b, .a]
      ∧ (copying { waiting.line with bankB := .full (frame 2 2000) }).line.bank .b
          = .full (frame 2 2000) := ⟨rfl, rfl, rfl, rfl⟩

theorem witness_PeersSoundKept :
    ∃ t, RestsInOff rich ∧ PeersSound rich ∧ step rich = .next t :=
  ⟨_, rich_RestsInOff, rich_PeersSound, rfl⟩

/-- `rich` with contention `c`, carrier sense `b` and receiver `r`. -/
def lineState (c : Contention) (b : Bool) (r : Receiver) : State :=
  { rich with line := { rich.line with contention := c, busy := b, rx := r } }

theorem witness_ContentionAdvances :
    rich.station.state.live = true ∧ rich.line.contention = .backoff
      ∧ (lineState .check false .hunting).line.contention = .check
      ∧ (lineState .check false .hunting).line.busy = false
      ∧ (lineState .sending true .off).line.contention = .sending
      ∧ (lineState .sending true .off).line.slot = some (shareFrame (fields 1 1000)) :=
  ⟨rfl, rfl, rfl, rfl, rfl, rfl⟩

/-- The fourth failure and the fifth, a collision after the deadline, and a draw of 0 that goes to CHECK. -/
def attempt (nb : Nat) (mark : Bool) : State :=
  { lineState .sending true .off with
    line := { (lineState .sending true .off).line with nb := nb, be := min 5 (2 + nb), mark := mark } }

theorem witness_FailedAttempt :
    (∀ c b r, (lineState c b r).station.state.live = true ∧ (lineState c b r).line.contention = c
        ∧ (lineState c b r).line.busy = b)
      ∧ (after (exec .collision (attempt 3 false))).line.nb = 4
      ∧ (after (exec .collision (attempt 3 false))).line.contention = .backoff
      ∧ (after (exec .collision (attempt 4 false))).line.slot = none
      ∧ (after (exec .collision (attempt 0 true))).line.sendMissed = 2
      ∧ (after (exec .lineBusy (lineState .check false .hunting))).line.nb = 2
      ∧ (after (exec .collision (attempt 0 false))).line.contention = .check := by
  refine ⟨fun c b r => ⟨rfl, rfl, rfl⟩, ?_⟩
  decide +kernel

theorem witness_RandomSource :
    (1 : BitVec 16) ≠ 0 ∧ (65535 : BitVec 32).toNat % 65536 ≠ 0 ∧ (65536 : BitVec 32).toNat % 65536 = 0
      ∧ RandomSound rich ∧ ∃ t, step rich = .next t :=
  ⟨by decide, by decide, by decide, rich_RandomSound, _, rfl⟩

/-- A receiver that looks for a delimiter with both banks FREE, one FREE, and none. -/
def hunting (a b : RxBank) (c : Contention) (busy : Bool) : State :=
  { rich with line := { rich.line with
      contention := c, busy := busy, rx := .hunting, bankA := a, bankB := b, lastClaimed := .a } }

theorem witness_DelimiterClaimsBank :
    (∀ a b c x, (hunting a b c x).station.state.live = true ∧ (hunting a b c x).line.rx = .hunting
        ∧ (hunting a b c x).line.bank (hunting a b c x).line.lastClaimed = a
        ∧ (hunting a b c x).line.bank (hunting a b c x).line.lastClaimed.other = b)
      ∧ (∃ t, exec .lineBusy (hunting .free .free .check false) = .next t)
      ∧ 15 < 16 ∧ 16 ≤ 16 ∧ (∀ f, RxBank.full f ≠ .free)
      ∧ ((hunting .free .free .backoff false).line.contention ≠ .check) :=
  ⟨fun _ _ _ _ => ⟨rfl, rfl, rfl, rfl⟩, ⟨_, rfl⟩, by decide, by decide, nofun, nofun⟩

/-- R178: fifteen bits of preamble claim no bank, sixteen claim one. -/
theorem test_preamble_limit :
    ([15, 16].map fun n =>
        let l := (after (exec (.startDelimiter n) (hunting .free .free .backoff false))).line
        (l.rx, l.bankA, l.bankB, l.rxOverruns))
      = [(.hunting, .free, .free, 0), (.length .b, .free, .receiving, 0)] := by decide

theorem witness_LengthByteAndIdleLine :
    (lineState .backoff true (.length .a)).station.state.live = true
      ∧ (lineState .backoff true (.length .a)).line.rx = .length .a ∧ (32#8 ≠ 33#8)
      ∧ (lineState .backoff true (.body .a)).line.rx = .body .a
      ∧ (lineState .backoff true .waitIdle).line.rx = .waitIdle
      ∧ (lineState .backoff true .off).line.contention ≠ .sending
      ∧ (lineState .sending true .off).line.contention = .sending :=
  ⟨rfl, rfl, by decide, rfl, rfl, nofun, rfl⟩

/-- `rich` with an idle peer table, and good frames of this group and of another. -/
def tableIdle : State :=
  { rich with
    peers := { rich.peers with work := .idle }, line := { rich.line with bankB := .free, order := [] } }

def foreign : SlotFrame := shareFrame { fields 2 2000 with group := 2 }

theorem witness_FrameReception :
    rich.station.state.live = true ∧ rich.station.setup = some v0 ∧ rich.line.rx = .body .a
      ∧ rich.peers.work ≠ .idle ∧ tableIdle.line.rx = .body .a ∧ tableIdle.peers.work = .idle
      ∧ tableIdle.line.order = []
      ∧ frameGood (shareFrame (fields 2 2000)).body (shareFrame (fields 2 2000)).crc = true
      ∧ bodyGroup (shareFrame (fields 2 2000)).body = v0.group
      ∧ frameGood foreign.body foreign.crc = true ∧ bodyGroup foreign.body ≠ v0.group
      ∧ frameGood foreign.body (foreign.crc + 1) = false :=
  ⟨rfl, rfl, rfl, nofun, rfl, rfl, rfl, by decide +kernel, by decide +kernel, by decide +kernel,
    by decide +kernel, by decide +kernel⟩

theorem witness_FrameRoundTrip :
    (fields 2 2000).counters.badFrames ≤ 255 ∧ (fields 2 2000).counters.sendMissed ≤ 255
      ∧ (fields 2 2000).counters.underruns ≤ 255 ∧ (fields 2 2000).counters.overruns ≤ 255 := by decide

/-- A bad frame with the counter at 255, and one below it. -/
theorem witness_CountersOnlyRise :
    CountersBounded rich ∧ (∃ t, exec (.frameReceptionCompletion foreign.body (foreign.crc + 1)) rich = .next t)
      ∧ StreaksBounded rich ∧ ∃ t, step rich = .next t :=
  ⟨rich_CountersBounded, ⟨_, rfl⟩, rich_StreaksBounded, _, rfl⟩

theorem witness_RingLawKept :
    ∃ t, RingLaw rich ∧ step rich = .next t ∧ t.plan.slot 1 = .playing ⟨11, .normal, played⟩ :=
  ⟨_, rich_RingLaw, rfl, by decide +kernel⟩

theorem witness_IdleOutsideKept :
    ∃ t, RestsInOff rich ∧ CountedOnlyActive rich ∧ IdleOutside rich ∧ step rich = .next t :=
  ⟨_, rich_RestsInOff, rich_CountedOnlyActive, rich_IdleOutside, rfl⟩

theorem witness_PlanBoundedKept :
    ∃ t, SetupSound rich ∧ PlanBounded rich ∧ step rich = .next t :=
  ⟨_, rich_SetupSound, rich_PlanBounded, rfl⟩

theorem witness_ReferenceWordRelations :
    PlanBounded (betweenScans 0) ∧ (betweenScans 0).acq.running = true
      ∧ ∃ t, exec (.sampleTimerExpiry codes0) (betweenScans 0) = .next t :=
  ⟨rich_PlanBounded, rfl, _, rfl⟩

/-- The last scans of the two halves, and the one before. -/
theorem witness_RampAndFade :
    (31#6).toNat % 32 + 1 = 32 ∧ (63#6).toNat % 32 + 1 = 32 ∧ (30#6).toNat % 32 + 1 < 32 ∧ 65535 ≤ 65535 := by
  decide

/-- R145: halves go to the even code, and the ends saturate. -/
theorem test_output_conversion :
    ([384, 640, -384, -640, 8388607, -8388608].map fun x => (outputValue (fr x)).toInt)
      = [2, 2, -2, -2, 32767, -32768] := by decide +kernel

/-- The word 0x85, 0xC8, 0x56 of R179 echoes sequence 5; the same with the tripped flag; 23 bits; a bad CRC;
another echo. -/
theorem witness_StatusWord :
    rich.link.running = true ∧ statusGood rich.link.word 24 0x85C856#24 = true
      ∧ statusTripped 0x85C856#24 = false ∧ statusGood rich.link.word 24 0xC5C80D#24 = true
      ∧ statusTripped 0xC5C80D#24 = true ∧ statusGood rich.link.word 23 0x85C856#24 = false
      ∧ rich.link.expiryDue = false
      ∧ statusGood rich.link.word 24 0x85C857#24 = false ∧ statusGood none 24 0x85C856#24 = false
      ∧ (after (exec (.statusArrival 24 0x85C856#24) rich)).link.status = some ⟨true, 0xC8⟩ := by
  decide +kernel

theorem witness_ModuleSilence :
    (betweenScans 63).link.running = true ∧ (betweenScans 63).link.word.isSome = true
      ∧ (betweenScans 63).link.answered = false ∧ 63 ≤ (betweenScans 63).link.silence
      ∧ (betweenScans 63).link.lost = false ∧ (betweenScans 63).acq.running = true
      ∧ (betweenScans 63).acq.scan = none ∧ rich.acq.scan ≠ none
      ∧ (∃ u, exec (.sampleTimerExpiry codes0) (betweenScans 63) = .next u)
      ∧ SilenceSound rich ∧ ∃ t, step rich = .next t :=
  ⟨rfl, rfl, rfl, Nat.le_refl _, rfl, rfl, rfl, nofun, ⟨_, rfl⟩, rich_SilenceSound, _, rfl⟩

/-- R153: after 63 silent scans nothing is declared before the scan that is 64th has ended, and a good word of
that scan is taken. -/
theorem test_silence_not_during_scan :
    let s : State := { rich with link := { rich.link with silence := 63 } }
    exec .moduleLinkSilence s = .next s
      ∧ (after (exec (.statusArrival 24 0x85C856#24) s)).link.silence = 0 :=
  ⟨rfl, by decide +kernel⟩

/-- The three states a run completes in. -/
theorem witness_RunCompletionHandover :
    ∀ s ∈ [entering, voltage 4915, holding],
      s.engine.run = some ⟨10, .b, .c, 4608⟩ ∧ s.station.setup = some v0 ∧ s.station.state.live = true
        ∧ s.line.slot = none ∧ (∀ w, s.peers.work ≠ .copy w) ∧ v0.imax ≤ 4194304 := by
  intro s h
  fin_cases h <;> exact ⟨rfl, rfl, rfl, rfl, nofun, by decide⟩

/-- The flags of the frame of run 10: limited and not, and frozen by its settling count and not. -/
theorem test_frame_flags :
    ([snapped 200, snapped 1, settling2].map fun s =>
        (after (exec .runCompletion s)).line.slot.map fun f => (f.body[8].getLsbD 4, f.body[8].getLsbD 0))
      = [some (false, false), some (true, false), some (false, true)] := by decide +kernel

/-- R53: the demand of the load on phase a; R55: a failed check alone makes the window unusable. -/
theorem witness_DemandDeliveredUsable :
    ints (measureWindow (List.replicate 32 (record 4915))).d = (0, -419413, 0)
      ∧ (measureWindow (List.replicate 32 (record 4915))).usable = true
      ∧ (measureWindow [{ record 0 with pass := false }]).usable = false
      ∧ (measureWindow [record 0]).overRange = true := by decide +kernel

/-- One evaluation of each kind short of its transition: LISTEN at count 6, ACTIVE with no cause, HOLD with a
cause and at count 2. -/
def evaluated (st : StationState) (n : Nat) (trip : Bool) : State :=
  { voltage 0 with
    station := { rich.station with state := st, announced := false, listenCount := n, reentryCount := n }
    link := { rich.link with tripLatch := trip } }

theorem witness_StationTransitions :
    (∀ n trip, ∀ st ∈ [StationState.listen, .active, .hold],
      (evaluated st n trip).engine.run = some ⟨10, .b, .c, 4608⟩
        ∧ (evaluated st n trip).station.setup = some v0
        ∧ (evaluated st n trip).station.state.live = true
        ∧ ∃ t, exec .runCompletion (evaluated st n trip) = .next t)
      ∧ [(StationState.listen, 6, false), (.listen, 7, false), (.listen, 7, true), (.active, 0, false),
          (.hold, 2, false), (.hold, 3, false), (.hold, 3, true)].map
          (fun x => (after (exec .runCompletion (evaluated x.1 x.2.1 x.2.2))).station.state)
        = [.listen, .active, .listen, .active, .hold, .active, .hold] := by
  refine ⟨fun n trip st h => ?_, by decide +kernel⟩
  fin_cases h <;> exact ⟨rfl, rfl, rfl, _, rfl⟩

/-- `ready` in FAULT with window view `w`. -/
def faulted (w : View) : State :=
  { ready with
    station := { ready.station with state := .fault }, peers := { ready.peers with view := w } }

/-- Run 10 in FAULT with each of the three verdicts; the streaks and the flag stood at 0, 1, clear. -/
theorem witness_RunCompletionInFault :
    (∀ w, (faulted w).engine.run = some ⟨10, .b, .c, 4608⟩ ∧ (faulted w).station.setup = some v0
        ∧ (faulted w).station.state = .fault ∧ (∀ x, (faulted w).peers.work ≠ .copy x))
      ∧ [view47, farView, ⟨[], false⟩].map (fun w => (after (exec .runCompletion (faulted w))).xcheck)
        = [⟨0, 2, false⟩, ⟨1, 0, false⟩, ⟨0, 1, false⟩] :=
  ⟨fun _ => ⟨rfl, rfl, rfl, nofun⟩, by decide +kernel⟩

end Sys2Proof.Tests
end

section
/-! What a command does, in kinds: three commands reset the part, and every other one acts on blocks of
its own. The proofs that a step keeps an invariant split along these kinds. -/

namespace Sys2Proof.Machine

open Sys2Proof

/-- What a command of the line alone can do to the line controller (R112 to R125). -/
inductive LineMove (l : LineController) : LineController → Prop where
  | check : l.contention = .backoff → LineMove l { l with contention := .check }
  | send : l.contention = .check → l.busy = false →
      LineMove l { l with contention := .sending, rx := .off, busy := true }
  | busy : LineMove l l.goBusy
  | idle : LineMove l l.goIdle
  | collide : l.contention = .sending → LineMove l l.collide
  | delimiter : l.rx = .hunting → LineMove l l.goBusy.delimiter
  | length (i : RxId) (len : Byte) : l.rx = .length i → LineMove l (l.lengthChecked i len)

/-- The three commands that take every block to its reset values (R160, R161). -/
inductive Resets (s : State) : Instr → State → Prop where
  | powerOn : Resets s .powerOn { State.reset with pending := s.pending }
  | loss : Resets s .lossOfSupplyGood s.losePower
  | assertion : Resets s .resetLineAssertion s.assertReset

/-- What every other command can do, with the conditions under which it does it. -/
inductive Acts (s : State) : State → Prop where
  | nothing : Acts s s
  /-- The power-on wait ends, or the reset line rises: OFF stays OFF or becomes SETUP (R162). -/
  | off (p : Pins) (w : Bool) (x : StationState) : s.station.state = .off → x = .off ∨ x = .setup →
      Acts s { s with pins := p, station := { s.station with state := x, waiting := w } }
  | listen (p : Pins) (image : Vector Byte 32) (v : Setup) : s.station.state = .setup →
      readImage image = some v → Acts s (State.enterListen { s with pins := p } v)
  | badImage (p : Pins) : s.station.state = .setup → Acts s (State.enterFault { s with pins := p })
  | expiry (codes : Channels Code) : s.acq.running = true → s.acq.scan = none →
      Acts s (s.expire codes)
  | silence : s.link.running = true →
      Acts s (State.stopStreamer { s with link := s.link.declareLost })
  | status (word : BitVec 24) : s.link.running = true → Acts s (s.takeStatus word)
  | scan (sc : Scan) (check : Code) : s.acq.scan = some sc → intervalPosition sc.index ≠ 31 →
      Acts s (s.recordScan sc check)
  | deadline (sc : Scan) (check : Code) : s.acq.scan = some sc → intervalPosition sc.index = 19 →
      Acts s { s.recordScan sc check with line := s.line.deadline }
  | close (sc : Scan) (v : Setup) (check : Code) (quench : Bool) : s.acq.scan = some sc →
      s.station.setup = some v → intervalPosition sc.index = 31 → s.engine.run = none →
      s.peers.work.copying = false → Acts s ((s.recordScan sc check).windowClose v quench)
  | copied (w : View) : s.peers.work = .copy w →
      Acts s (State.startMerge { s with peers := { s.peers with view := w, work := .idle } })
  | run (r : Run) (v : Setup) : s.engine.run = some r → s.station.setup = some v →
      s.peers.work.copying = false → s.station.state.live = true → s.line.slot = none →
      Acts s (s.completeRun v r)
  | runInFault (r : Run) (v : Setup) : s.engine.run = some r → s.station.state = .fault →
      Acts s (s.completeRunInFault v r)
  | line (l : LineController) : s.station.state.live = true → LineMove s.line l →
      Acts s { s with line := l }
  | sent (f : SlotFrame) : s.station.state.live = true → s.line.contention = .sending →
      s.line.slot = some f → Acts s (s.transmitted f)
  | received (v : Setup) (i : RxId) (body : Vector Byte 33) (crc : BitVec 16) :
      s.line.rx = .body i → s.station.state.live = true →
      Acts s (State.startMerge
        { s with line := s.line.received i v.group body crc s.acq.interval })
  /-- The merge in hand ends: with its entry written or its conflict counted, the bank FREE and the next
  frame taken (R95, R96, R107). -/
  | merged (i : RxId) (f : Received) (es : List PeerEntry) (n : Nat) : s.peers.work = .merge i →
      s.line.bank i = .merging f → n = s.peers.conflict ∨ n = 16 →
      Acts s (State.startMerge
        { s with
          peers := { s.peers with entries := es, conflict := n, work := .idle }
          line := s.line.endMerge i })
  /-- The merge in hand ends with a conflict that leads to FAULT (R106). -/
  | conflict (i : RxId) : s.peers.work = .merge i →
      Acts s (State.enterFault
        { s with peers := { s.peers with work := .idle }, line := s.line.endMerge i })

variable {s t : State}

theorem acts_of_endOfPowerOnWait {high : Bool} (h : exec (.endOfPowerOnWait high) s = .next t) :
    Acts s t := by
  obtain ⟨-, hoff, rfl⟩ | rfl := endOfPowerOnWait_next h
  · obtain ⟨-, e⟩ | ⟨-, -, e⟩ | ⟨-, -, e⟩ := endWait_cases s high <;> rw [e]
    · simpa [hoff] using Acts.off (s := s) s.pins false .off hoff (.inl rfl)
    · exact .off _ _ _ hoff (.inr rfl)
    · simpa [hoff] using Acts.off (s := s) { s.pins with resetN := false } false .off hoff (.inl rfl)
  · exact .nothing

theorem acts_of_resetLineRelease (h : exec .resetLineRelease s = .next t) : Acts s t := by
  obtain ⟨-, -, hoff, ⟨hw, rfl⟩ | ⟨hw, rfl⟩⟩ | rfl := resetLineRelease_next h
  · simpa [← hoff] using Acts.off (s := s) { s.pins with resetN := true, resetAsserted := false }
      s.station.waiting .off hoff (.inl rfl)
  · exact .off _ _ _ hoff (.inr rfl)
  · exact .nothing

theorem acts_of_setupReadCompletion {image : Vector Byte 32}
    (h : exec (.setupReadCompletion image) s = .next t) : Acts s t := by
  obtain ⟨hs, v, hv, rfl⟩ | ⟨hs, -, rfl⟩ | rfl := setupReadCompletion_next h
  · exact .listen _ _ _ hs hv
  · exact .badImage _ hs
  · exact .nothing

theorem acts_of_scanCompletion {check : Code} {quench : Bool}
    (h : exec (.scanCompletion check quench) s = .next t) : Acts s t := by
  obtain ⟨sc, v, hsc, hv, hidle, rfl⟩ | rfl := scanCompletion_next h
  · obtain ⟨hp, e⟩ | ⟨hp, e⟩ | ⟨-, hp, e⟩ := afterScan_cases (s.recordScan sc check) v sc.index quench
      <;> rw [e]
    · exact .deadline sc check hsc hp
    · exact .close sc v check quench hsc hv hp (hidle hp).1 (hidle hp).2
    · exact .scan sc check hsc hp
  · exact .nothing

theorem acts_of_runCompletion (h : exec .runCompletion s = .next t) : Acts s t := by
  obtain ⟨r, v, hr, hv, hc, ⟨hl, hslot, rfl⟩ | ⟨hf, rfl⟩ | ⟨-, -, rfl⟩⟩ | ⟨-, rfl⟩ :=
    runCompletion_next h
  · exact .run r v hr hv hc hl hslot
  · exact .runInFault r v hr hf
  · exact .nothing
  · exact .nothing

theorem acts_of_mergeCompletion (h : exec .mergeCompletion s = .next t) : Acts s t := by
  obtain ⟨i, v, f, hw, -, hb, rfl⟩ | rfl := mergeCompletion_next h
  · obtain ⟨-, e, -, he⟩ | ⟨-, -, he⟩ | ⟨-, -, he⟩ | ⟨-, -, he⟩ := finishMerge_cases s v i f <;> rw [he]
    · exact .merged i f (writeEntry e s.peers.entries) _ hw hb (.inl rfl)
    · exact .merged i f s.peers.entries _ hw hb (.inl rfl)
    · exact .conflict i hw
    · exact .merged i f s.peers.entries _ hw hb (.inr rfl)
  · exact .nothing

theorem acts_of_startDelimiter {n : Nat} (h : exec (.startDelimiter n) s = .next t) : Acts s t := by
  obtain ⟨hl, hx, ⟨-, rfl⟩ | ⟨-, rfl⟩⟩ | rfl := startDelimiter_next h
  · exact .line _ hl (.delimiter hx)
  · exact .line _ hl .busy
  · exact .nothing

/-- A command that answers a next state resets the part or acts on blocks of its own. -/
theorem exec_cases {c : Instr} (h : exec c s = .next t) : Resets s c t ∨ Acts s t := by
  cases c with
  | powerOn => exact .inl (powerOn_next h ▸ .powerOn)
  | lossOfSupplyGood => exact .inl (lossOfSupplyGood_next h ▸ .loss)
  | endOfPowerOnWait high => exact .inr (acts_of_endOfPowerOnWait h)
  | resetLineAssertion =>
    obtain ⟨-, rfl⟩ | rfl := resetLineAssertion_next h
    · exact .inl .assertion
    · exact .inr .nothing
  | resetLineRelease => exact .inr (acts_of_resetLineRelease h)
  | setupReadCompletion image => exact .inr (acts_of_setupReadCompletion h)
  | sampleTimerExpiry codes =>
    obtain ⟨hr, hs, rfl⟩ | ⟨-, rfl⟩ := sampleTimerExpiry_next h
    · exact .inr (.expiry codes hr hs)
    · exact .inr .nothing
  | moduleLinkSilence =>
    obtain ⟨hr, -, -, -, rfl⟩ | rfl := moduleLinkSilence_next h
    · exact .inr (.silence hr)
    · exact .inr .nothing
  | scanCompletion check quench => exact .inr (acts_of_scanCompletion h)
  | viewCopyCompletion =>
    obtain ⟨w, hw, rfl⟩ | rfl := viewCopyCompletion_next h
    · exact .inr (.copied w hw)
    · exact .inr .nothing
  | runCompletion => exact .inr (acts_of_runCompletion h)
  | backoffExpiry =>
    obtain ⟨hl, hc, rfl⟩ | rfl := backoffExpiry_next h
    · exact .inr (.line _ hl (.check hc))
    · exact .inr .nothing
  | clearCheckPass =>
    obtain ⟨hl, hc, hb, rfl⟩ | rfl := clearCheckPass_next h
    · exact .inr (.line _ hl (.send hc hb))
    · exact .inr .nothing
  | lineBusy =>
    obtain ⟨hl, rfl⟩ | rfl := lineBusy_next h
    · exact .inr (.line _ hl .busy)
    · exact .inr .nothing
  | lineIdle =>
    obtain ⟨hl, rfl⟩ | rfl := lineIdle_next h
    · exact .inr (.line _ hl .idle)
    · exact .inr .nothing
  | collision =>
    obtain ⟨hl, hc, rfl⟩ | rfl := collision_next h
    · exact .inr (.line _ hl (.collide hc))
    · exact .inr .nothing
  | transmissionCompletion =>
    obtain ⟨f, hl, hc, hf, rfl⟩ | rfl := transmissionCompletion_next h
    · exact .inr (.sent f hl hc hf)
    · exact .inr .nothing
  | startDelimiter n => exact .inr (acts_of_startDelimiter h)
  | lengthByteCheck len =>
    obtain ⟨i, hl, hx, rfl⟩ | rfl := lengthByteCheck_next h
    · exact .inr (.line _ hl (.length i len hx))
    · exact .inr .nothing
  | frameReceptionCompletion body crc =>
    obtain ⟨v, i, -, hx, hl, rfl⟩ | rfl := frameReceptionCompletion_next h
    · exact .inr (.received v i body crc hx hl)
    · exact .inr .nothing
  | mergeCompletion => exact .inr (acts_of_mergeCompletion h)
  | statusArrival bits word =>
    obtain ⟨hr, -, -, rfl⟩ | rfl := statusArrival_next h
    · exact .inr (.status word hr)
    · exact .inr .nothing
  | resetNReturnsHigh =>
    obtain ⟨-, -, -, -, hoff, rfl⟩ | rfl := resetNReturnsHigh_next h
    · exact .inr (.off _ _ _ hoff (.inr rfl))
    · exact .inr .nothing

/-- What the resets establish and every other command keeps, and what does not speak of the queue, every
step keeps. -/
theorem kept_of_acts {P : State → Prop} (queue : ∀ s q, P s → P { s with pending := q })
    (resets : ∀ c s t, Resets s c t → P t) (acts : ∀ s t, P s → Acts s t → P t) {s t : State}
    (hs : P s) (h : step s = .next t) : P t :=
  kept_of_exec queue
    (fun c s t hs h => (exec_cases h).elim (resets c s t) (acts s t hs)) hs h

end Sys2Proof.Machine
end

section
/-! In OFF and SETUP every block keeps its reset values. -/

namespace Sys2Proof.Machine

open Sys2Proof

variable {s t : State}

/-- The part is in OFF or SETUP. -/
def State.resting (s : State) : Prop := s.station.state = .off ∨ s.station.state = .setup

theorem not_resting_of_live (h : s.station.state.live = true) : ¬ s.resting := by
  rintro (hs | hs) <;> rw [hs] at h <;> cases h

theorem resets_restsInOff {c : Instr} (h : Resets s c t) : RestsInOff t := by
  cases h <;>
    exact fun _ => ⟨rfl, rfl, rfl, rfl, rfl, rfl, rfl, rfl, rfl, rfl, rfl, rfl, rfl, rfl, rfl, rfl, rfl⟩

/-- What a command would have to find in OFF or SETUP to act on a block is not there. -/
theorem RestsInOff.idle (h : RestsInOff s) (hr : s.resting) :
    s.acq.running = false ∧ s.acq.scan = none ∧ s.link.running = false ∧ s.engine.run = none
      ∧ s.peers.work = .idle := by
  obtain ⟨-, hacq, -, hengine, -, -, -, hpeers, -, -, -, hlink, -⟩ := h hr
  simp [hacq, hengine, hpeers, hlink, Acquisition.reset, Engine.reset, PeerTable.reset,
    ModuleLink.reset]

/-- An evaluation does not lead out of LISTEN, ACTIVE and HOLD. -/
theorem Station.evaluate_live {st : Station} (v : Setup) (lock : Lock) (c : Causes)
    (h : st.state.live = true) : (st.evaluate v lock c).state.live = true := by
  obtain ⟨-, ⟨hs, -⟩ | ⟨⟨-, hs⟩ | ⟨-, hs⟩ | ⟨-, hs⟩, -⟩⟩ := st.evaluate_cases v lock c
  · rwa [hs]
  all_goals rw [hs]; rfl

/-- The station after a run completion has been evaluated from the station before (R39, step 5). -/
theorem State.completeRun_station (s : State) (v : Setup) (r : Run) :
    ∃ lock c, (s.completeRun v r).station = s.station.evaluate v lock c := ⟨_, _, rfl⟩

theorem State.completeRun_live (v : Setup) (r : Run) (h : s.station.state.live = true) :
    (s.completeRun v r).station.state.live = true :=
  Station.evaluate_live v _ _ h

/-- What an act can do to the station state: keep it, leave OFF or SETUP, move within LISTEN, ACTIVE and
HOLD, or enter FAULT from a merge. -/
theorem Acts.state_cases (a : Acts s t) :
    t.station.state = s.station.state ∨ s.resting
      ∨ (s.station.state.live = true ∧ t.station.state.live = true)
      ∨ ((∃ i, s.peers.work = .merge i) ∧ t.station.state = .fault) := by
  cases a with
  | off _ _ _ hoff _ => exact .inr (.inl (.inl hoff))
  | listen _ _ _ hs _ => exact .inr (.inl (.inr hs))
  | badImage _ hs => exact .inr (.inl (.inr hs))
  | run r v _ _ _ hl _ => exact .inr (.inr (.inl ⟨hl, State.completeRun_live v r hl⟩))
  | conflict i hw => exact .inr (.inr (.inr ⟨⟨i, hw⟩, rfl⟩))
  | expiry codes _ _ => exact .inl (by simp)
  | status word _ => exact .inl (by simp)
  | copied w _ => exact .inl (by simp)
  | received v i body crc _ _ => exact .inl (by simp)
  | merged i f es n _ _ _ => exact .inl (by simp)
  | nothing | silence | scan | deadline | close | runInFault | line | sent => exact .inl rfl

/-- In OFF and SETUP a command does nothing, or moves the station within the two or out of them. -/
theorem RestsInOff.acts_resting (h : RestsInOff s) (hr : s.resting) (a : Acts s t) :
    (∃ p w x, (x = .off ∨ x = .setup)
        ∧ t = { s with pins := p, station := { s.station with state := x, waiting := w } })
      ∨ ¬ t.resting := by
  obtain ⟨hrunning, hscan, hlink, hrun, hwork⟩ := h.idle hr
  cases a with
  | nothing => exact .inl ⟨_, _, _, hr, rfl⟩
  | off p w x _ hx => exact .inl ⟨p, w, x, hx, rfl⟩
  | listen | badImage => exact .inr (by rintro (h | h) <;> cases h)
  | runInFault r v hr' _ => simp [hrun] at hr'
  | run _ _ _ _ _ hl _ | line _ hl _ | sent _ hl _ _ | received _ _ _ _ _ hl =>
    exact absurd hr (not_resting_of_live hl)
  | expiry | silence | status | scan | deadline | close | copied | merged | conflict => simp_all

theorem RestsInOff.acts (h : RestsInOff s) (a : Acts s t) : RestsInOff t := by
  intro hr
  by_cases hs : s.resting
  · obtain ⟨p, w, x, hx, rfl⟩ | hn := h.acts_resting hs a
    · obtain ⟨hstation, hrest⟩ := h hs
      refine ⟨?_, hrest⟩
      rw [hstation]
    · exact absurd hr hn
  · obtain e | hs' | ⟨-, hl⟩ | ⟨-, hf⟩ := a.state_cases
    · exact absurd (by rwa [State.resting, ← e]) hs
    · exact absurd hs' hs
    · exact absurd hr (not_resting_of_live hl)
    · rw [hf] at hr
      rcases hr with hr | hr <;> cases hr

/-- Settles O10, along the kinds of commands: in OFF and SETUP a command finds no block at work. -/
theorem restsInOffKept : Obligations.RestsInOffKept := by
  intro s t
  exact kept_of_acts (fun _ _ h => h) (fun _ _ _ => resets_restsInOff) (fun _ _ h a => h.acts a)

end Sys2Proof.Machine
end

section
/-! What the operations of the line leave alone, and the invariants of the station: what runs in LISTEN,
ACTIVE and HOLD, the setup values, and what a frame announces. -/

namespace Sys2Proof.Machine

open Sys2Proof

variable {s t : State} {l m : LineController}

/-! ## The line's operations -/

@[simp] theorem LineController.setBank_bank (l : LineController) (i : RxId) :
    l.setBank i (l.bank i) = l := by cases i <;> rfl

/-- The start of a merge touches one bank. -/
theorem LineController.beginMerge_eq_setBank (l : LineController) (i : RxId) :
    ∃ b, l.beginMerge i = l.setBank i b := by
  obtain ⟨f, -, e⟩ | ⟨-, e⟩ := l.beginMerge_cases i
  · exact ⟨_, e⟩
  · exact ⟨l.bank i, by rw [e, LineController.setBank_bank]⟩

theorem State.startMerge_line (s : State) : ∃ i b, s.startMerge.line = s.line.setBank i b := by
  obtain e | ⟨i, rest, -, -, e⟩ := s.startMerge_cases <;> rw [e]
  · exact ⟨.a, s.line.bank .a, by rw [LineController.setBank_bank]⟩
  · exact ⟨i, s.line.beginMerge_eq_setBank i⟩

/-- The end of a merge in hand at a close touches one bank. -/
theorem abandonWork_eq_setBank (w : TableWork) (l : LineController) :
    ∃ i b, abandonWork w l = l.setBank i b := by
  cases w with
  | idle | copy => exact ⟨.a, l.bank .a, by simp [abandonWork]⟩
  | merge i =>
    obtain ⟨f, -, e⟩ | ⟨-, e⟩ := l.abandonMerge_cases i
    · exact ⟨i, _, e⟩
    · exact ⟨i, l.bank i, by rw [LineController.setBank_bank]; exact e⟩

theorem LineController.checkFailed_slot (l : LineController) :
    l.checkFailed.slot = l.slot ∨ l.checkFailed.slot = none := by
  obtain ⟨-, e⟩ | ⟨-, e⟩ := l.checkFailed_cases <;> simp [e]

theorem LineController.goBusy_slot (l : LineController) :
    l.goBusy.slot = l.slot ∨ l.goBusy.slot = none := by
  obtain ⟨-, -, e⟩ | ⟨-, e⟩ := l.goBusy_cases <;> rw [e]
  · exact LineController.checkFailed_slot _
  · exact .inl rfl

@[simp] theorem LineController.failFrame_slot (l : LineController) (i : RxId) :
    (l.failFrame i).slot = l.slot := by simp [LineController.failFrame]

@[simp] theorem LineController.delimiter_slot (l : LineController) : l.delimiter.slot = l.slot := by
  obtain ⟨i, -, e⟩ | ⟨-, e⟩ := l.delimiter_cases <;> simp [e]

@[simp] theorem LineController.received_slot (l : LineController) (i : RxId) (g : BitVec 4)
    (body : Vector Byte 33) (crc : BitVec 16) (stamp : Num) :
    (l.received i g body crc stamp).slot = l.slot := by
  obtain ⟨-, -, e⟩ | ⟨-, -, e⟩ | ⟨-, e⟩ := l.received_cases i g body crc stamp <;>
    simp [e, LineController.acceptFrame, LineController.dropForeign]

theorem LineController.deadline_slot (l : LineController) :
    l.deadline.slot = l.slot ∨ l.deadline.slot = none := by
  obtain ⟨-, e⟩ | ⟨-, e⟩ | ⟨-, e⟩ := l.deadline_cases <;> simp [e]

/-- No command of the line alone puts a frame into the slot (R114). -/
theorem LineMove.slot_cases (h : LineMove l m) : m.slot = l.slot ∨ m.slot = none := by
  cases h with
  | check | send => exact .inl rfl
  | busy => exact l.goBusy_slot
  | idle => obtain ⟨-, e⟩ | ⟨-, i, -, e⟩ | ⟨-, -, e⟩ := l.goIdle_cases <;> simp [e]
  | collide => obtain ⟨-, e⟩ | ⟨-, -, e⟩ := l.collide_cases <;> simp [e]
  | delimiter => simpa using l.goBusy_slot
  | length i len => obtain ⟨-, e⟩ | ⟨-, e⟩ := l.lengthChecked_cases i len <;> simp [e]

/-! ## The acquisition unit after a scan -/

/-- Every field of the acquisition unit after a scan completion (R8, R10). -/
theorem Acquisition.complete_fields (a : Acquisition) (sc : Scan) (check : Code) :
    a.complete sc check =
      { a with
        scan := none
        closeNumber := if sc.index.toNat % 32 = 31 then a.closeNumber + 1 else a.closeNumber
        failStreak := if checkPasses sc.index check then 0 else min 3 (a.failStreak + 1)
        passStreak := if checkPasses sc.index check then min 64 (a.passStreak + 1) else 0
        faulty :=
          if checkPasses sc.index check then (if 64 ≤ a.passStreak + 1 then false else a.faulty)
          else if 3 ≤ a.failStreak + 1 then true else a.faulty } := by
  unfold Acquisition.complete
  by_cases hp : intervalPosition sc.index = 31
  · have hp' : sc.index.toNat % 32 = 31 := hp
    cases checkPasses sc.index check <;> simp [Acquisition.checked, bump, hp, hp']
  · have hp' : sc.index.toNat % 32 ≠ 31 := hp
    cases checkPasses sc.index check <;> simp [Acquisition.checked, bump, hp, hp']

@[simp] theorem Acquisition.complete_running (a : Acquisition) (sc : Scan) (check : Code) :
    (a.complete sc check).running = a.running := by rw [a.complete_fields]

@[simp] theorem Acquisition.complete_scan (a : Acquisition) (sc : Scan) (check : Code) :
    (a.complete sc check).scan = none := by rw [a.complete_fields]

@[simp] theorem Acquisition.complete_next (a : Acquisition) (sc : Scan) (check : Code) :
    (a.complete sc check).next = a.next := by rw [a.complete_fields]

@[simp] theorem Acquisition.complete_closeNumber (a : Acquisition) (sc : Scan) (check : Code) :
    (a.complete sc check).closeNumber
      = if intervalPosition sc.index = 31 then a.closeNumber + 1 else a.closeNumber := by
  rw [a.complete_fields]
  rfl

/-! ## What runs in LISTEN, ACTIVE and HOLD -/

/-- A station that stays in LISTEN, ACTIVE or HOLD keeps its timer and its link running. -/
theorem RunsOnlyLive.of_live (h : RunsOnlyLive s) (hs : s.station.state.live = true)
    (ht : t.station.state.live = true) (ha : t.acq.running = s.acq.running)
    (hk : t.link.running = s.link.running) : RunsOnlyLive t :=
  ⟨fun _ => by rw [ha, hk]; exact h.1 hs, fun hn => by simp [ht] at hn⟩

/-- The start of a merge changes nothing that runs. -/
theorem RunsOnlyLive.startMerge (h : RunsOnlyLive s) : RunsOnlyLive s.startMerge := by
  obtain ⟨i, b, e⟩ := s.startMerge_line
  simpa [RunsOnlyLive, e] using h

theorem RunsOnlyLive.live_of_scan (h : RunsOnlyLive s) {sc : Scan} (hs : s.acq.scan = some sc) :
    s.station.state.live = true := by
  by_contra hl
  obtain ⟨-, hn, -⟩ := h.2 (by simpa using hl)
  simp [hs] at hn

theorem RunsOnlyLive.live_of_running (h : RunsOnlyLive s)
    (hr : s.acq.running = true ∨ s.link.running = true) : s.station.state.live = true := by
  by_contra hl
  obtain ⟨ha, -, hk, -⟩ := h.2 (by simpa using hl)
  simp [ha, hk] at hr

theorem resets_runsOnlyLive {c : Instr} (h : Resets s c t) : RunsOnlyLive t := by
  cases h <;> exact ⟨nofun, fun _ => ⟨rfl, rfl, rfl, rfl, rfl, rfl⟩⟩

theorem runsOnlyLive_enterFault (s : State) : RunsOnlyLive s.enterFault :=
  ⟨nofun, fun _ => ⟨rfl, rfl, rfl, rfl, rfl, rfl⟩⟩

theorem RunsOnlyLive.acts (h : RunsOnlyLive s) (a : Acts s t) : RunsOnlyLive t := by
  cases a with
  | nothing => exact h
  | off p w x hoff hx =>
    refine ⟨fun hl => ?_, fun _ => h.2 (by rw [hoff]; rfl)⟩
    rcases hx with rfl | rfl <;> cases hl
  | listen => exact ⟨fun _ => ⟨rfl, rfl⟩, nofun⟩
  | badImage | conflict => exact runsOnlyLive_enterFault _
  | expiry codes hr _ =>
    have hl := h.live_of_running (.inl hr)
    exact h.of_live hl (by simpa using hl) (by simp [Acquisition.expire]) (by simp [ModuleLink.expire])
  | silence hr =>
    have hl := h.live_of_running (.inr hr)
    exact h.of_live hl hl rfl rfl
  | status word hr =>
    have hl := h.live_of_running (.inr hr)
    exact h.of_live hl (by simpa using hl) (by simp) (by simp [ModuleLink.takeStatus])
  | scan sc check hs | deadline sc check hs | close sc v check quench hs =>
    have hl := h.live_of_scan hs
    exact h.of_live hl hl (Acquisition.complete_running ..) rfl
  | copied w => exact RunsOnlyLive.startMerge h
  | run r v _ _ _ hl _ => exact h.of_live hl (State.completeRun_live v r hl) rfl rfl
  | runInFault => exact h
  | line _ hl | sent _ hl => exact h.of_live hl hl rfl rfl
  | received v i body crc _ hl =>
    exact RunsOnlyLive.startMerge (h.of_live hl hl rfl rfl)
  | merged i => exact RunsOnlyLive.startMerge (by simpa [RunsOnlyLive, LineController.endMerge] using h)

/-! ## Setup values -/

/-- What a read puts into use lies in the ranges of R164, and its serial has passed the check of R163. -/
theorem readImage_setupInRange {image : Vector Byte 32} {v : Setup} (h : readImage image = some v) :
    SetupInRange v := by
  unfold readImage at h
  split at h
  · rename_i hp
    obtain ⟨f, -, rfl⟩ := Option.map_eq_some_iff.mp h
    simp only [imagePasses, Bool.and_eq_true, decide_eq_true_eq] at hp
    obtain ⟨⟨⟨⟨-, -⟩, h0⟩, h1⟩, -⟩ := hp
    refine ⟨h0, h1, ?_⟩
    simp only [imageSetup, clamp]
    omega
  · cases h

theorem resets_off {c : Instr} (h : Resets s c t) :
    t.station.state = .off ∧ t.station.setup = none ∧ t.station.announced = false
      ∧ t.line.slot = none := by cases h <;> exact ⟨rfl, rfl, rfl, rfl⟩

theorem resets_setupSound {c : Instr} (h : Resets s c t) : SetupSound t := by
  obtain ⟨hstate, hsetup, -⟩ := resets_off h
  simp [SetupSound, hstate, hsetup, StationState.live]

@[simp] theorem Station.evaluate_setup (st : Station) (v : Setup) (lock : Lock) (c : Causes) :
    (st.evaluate v lock c).setup = st.setup := (st.evaluate_cases v lock c).1.2.1

theorem SetupSound.acts (h : SetupSound s) (a : Acts s t) : SetupSound t := by
  cases a with
  | nothing | silence | scan | deadline | close | runInFault | line | sent => exact h
  | expiry | status | copied | received | merged => simpa [SetupSound] using h
  | off p w x _ hx => exact ⟨h.1, fun hl => by rcases hx with rfl | rfl <;> cases hl⟩
  | listen p image v _ hv =>
    exact ⟨fun w hw => Option.some.inj hw ▸ readImage_setupInRange hv, fun _ => rfl⟩
  | badImage | conflict => exact ⟨h.1, nofun⟩
  | run r v _ _ _ hl =>
    exact ⟨fun w hw => h.1 w ((Station.evaluate_setup ..).symm.trans hw), fun _ =>
      (congrArg Option.isSome (Station.evaluate_setup ..)).trans (h.2 hl)⟩

/-! ## What a frame announces -/

theorem resets_announceSound {c : Instr} (h : Resets s c t) : AnnounceSound t := by
  obtain ⟨-, -, hann, hslot⟩ := resets_off h
  simp [AnnounceSound, hann, hslot]

/-- A step that keeps the station state and the announced flag, and at most empties the slot, keeps what is
announced. -/
theorem AnnounceSound.of_slot (h : AnnounceSound s) (hs : t.station.state = s.station.state)
    (ha : t.station.announced = s.station.announced)
    (hf : t.line.slot = s.line.slot ∨ t.line.slot = none) : AnnounceSound t := by
  refine ⟨fun f hslot => ?_, by rw [hs, ha]; exact h.2⟩
  rw [hs]
  rcases hf with hf | hf
  · exact h.1 f (hf ▸ hslot)
  · simp [hf] at hslot

theorem AnnounceSound.startMerge (h : AnnounceSound s) : AnnounceSound s.startMerge := by
  obtain ⟨i, b, e⟩ := s.startMerge_line
  exact h.of_slot (by simp) (by simp) (.inl (by simp [e]))

theorem announceSound_enterFault (s : State) : AnnounceSound s.enterFault := ⟨nofun, fun _ => .inr rfl⟩

/-- A run completion announces in its frame the state of its evaluation (R171). -/
theorem AnnounceSound.completeRun (h : AnnounceSound s) (v : Setup) (r : Run)
    (hl : s.station.state.live = true) : AnnounceSound (s.completeRun v r) := by
  refine ⟨fun f hf => ⟨State.completeRun_live v r hl, ?_⟩, fun ha => ?_⟩
  · obtain rfl : _ = f := Option.some.inj hf
    rfl
  · obtain ⟨lock, c, e⟩ := s.completeRun_station v r
    rw [e] at ha ⊢
    obtain ⟨-, ⟨hstate, hann⟩ | ⟨-, hann⟩⟩ := s.station.evaluate_cases v lock c
    · rw [hstate]
      exact h.2 (hann.symm.trans ha)
    · cases hann.symm.trans ha

theorem AnnounceSound.transmitted (h : AnnounceSound s) {f : SlotFrame} (hf : s.line.slot = some f) :
    AnnounceSound (s.transmitted f) := by
  obtain ⟨hl, hstate⟩ := h.1 f hf
  refine ⟨nofun, fun ha => ?_⟩
  rcases Bool.or_eq_true_iff.mp ha with ha | ha
  · exact h.2 ha
  · have hactive := hstate.symm.trans (of_decide_eq_true ha)
    cases hs : s.station.state <;> rw [hs] at hactive hl <;> simp_all [StationState.announce, Station.sent]

theorem AnnounceSound.acts (h : AnnounceSound s) (a : Acts s t) : AnnounceSound t := by
  cases a with
  | nothing | silence | scan | runInFault => exact h
  | off p w x hoff =>
    refine ⟨fun f hf => ?_, fun ha => ?_⟩
    · have hl := (h.1 f hf).1
      simp [hoff, StationState.live] at hl
    · simpa [hoff] using h.2 ha
  | listen p image v hs => exact ⟨nofun, fun ha => by simpa [hs] using h.2 ha⟩
  | badImage | conflict => exact announceSound_enterFault _
  | expiry | status => exact h.of_slot (by simp) (by simp) (.inl (by simp))
  | deadline => exact h.of_slot rfl rfl s.line.deadline_slot
  | close sc v check quench =>
    obtain ⟨i, b, e⟩ := abandonWork_eq_setBank s.peers.work s.line
    exact h.of_slot rfl rfl (.inl (by simp [e]))
  | copied => exact AnnounceSound.startMerge h
  | run r v _ _ _ hl => exact h.completeRun v r hl
  | line l _ m => exact h.of_slot rfl rfl m.slot_cases
  | sent f _ _ hf => exact h.transmitted hf
  | received v i body crc =>
    exact AnnounceSound.startMerge (h.of_slot rfl rfl (.inl (LineController.received_slot ..)))
  | merged i f es n =>
    exact AnnounceSound.startMerge (h.of_slot rfl rfl (.inl (LineController.setBank_slot ..)))

/-- Settles O11: three invariants, each kept by every kind of command. -/
theorem stationInvariantsKept : Obligations.StationInvariantsKept := by
  intro s t
  refine kept_of_acts (P := fun s => RunsOnlyLive s ∧ SetupSound s ∧ AnnounceSound s)
    (fun _ _ h => h) (fun _ _ _ h => ?_) (fun _ _ h a => ?_)
  · exact ⟨resets_runsOnlyLive h, resets_setupSound h, resets_announceSound h⟩
  · obtain ⟨hruns, hsetup, hann⟩ := h
    exact ⟨hruns.acts a, hsetup.acts a, hann.acts a⟩

end Sys2Proof.Machine
end

section
/-! The receive banks, the receiver, the order of waiting frames and the table's work agree. -/

namespace Sys2Proof.Machine

open Sys2Proof

variable {s t : State} {l m : LineController}

/-- What the two banks, the receiver, the waiting order and the table's work say of each other, but for the
table that is idle with no frame waiting. -/
structure BanksAgree (bank : RxId → RxBank) (rx : Receiver) (order : List RxId) (w : TableWork) :
    Prop where
  receiving : ∀ i, bank i = .receiving ↔ rx.filling = some i
  nodup : order.Nodup
  held : ∀ i, i ∈ order ↔ (bank i).isHeld = true
  merging : ∀ i, (bank i).isMerging = true ↔ w = .merge i
  head : ∀ i, w = .merge i → order.head? = some i

section Banks

variable {bank : RxId → RxBank} {rx rx' : Receiver} {order : List RxId} {w : TableWork} {i : RxId}

/-- The receiver may change as long as it fills the same bank. -/
theorem BanksAgree.of_filling (h : BanksAgree bank rx order w) (hx : rx'.filling = rx.filling) :
    BanksAgree bank rx' order w :=
  { h with receiving := by rw [hx]; exact h.receiving }

/-- A bank being filled is neither FULL nor MERGING, and no other bank is being filled. -/
theorem BanksAgree.filling (h : BanksAgree bank rx order w) (hx : rx.filling = some i) :
    bank i = .receiving ∧ i ∉ order ∧ w ≠ .merge i := by
  have hb := (h.receiving i).mpr hx
  refine ⟨hb, fun hi => ?_, fun hw => ?_⟩
  · simpa [hb, RxBank.isHeld] using (h.held i).mp hi
  · simpa [hb, RxBank.isMerging] using (h.merging i).mpr hw

/-- One bank changes: the receiver, the order and the table's work must follow for it, and say the same as
before of the other. -/
theorem BanksAgree.update {b : RxBank} {order' : List RxId} {w' : TableWork}
    (h : BanksAgree bank rx order w)
    (own : (b = .receiving ↔ rx'.filling = some i) ∧ (i ∈ order' ↔ b.isHeld = true)
      ∧ (b.isMerging = true ↔ w' = .merge i))
    (other : ∀ j, j ≠ i → (rx'.filling = some j ↔ rx.filling = some j) ∧ (j ∈ order' ↔ j ∈ order)
      ∧ (w' = .merge j ↔ w = .merge j))
    (nodup : order'.Nodup) (head : ∀ j, w' = .merge j → order'.head? = some j) :
    BanksAgree (Function.update bank i b) rx' order' w' := by
  obtain ⟨hreceiving, hheld, hmerging⟩ := own
  refine ⟨fun j => ?_, nodup, fun j => ?_, fun j => ?_, head⟩ <;> by_cases q : j = i
  · simpa [q] using hreceiving
  · simp [q, (other j q).1, h.receiving j]
  · simpa [q] using hheld
  · simp [q, (other j q).2.1, h.held j]
  · simpa [q] using hmerging
  · simp [q, (other j q).2.2, h.merging j]

/-- The frame being received fails or is of another group: its bank is FREE (R125, R126). -/
theorem BanksAgree.release (h : BanksAgree bank rx order w) (hx : rx.filling = some i)
    (hx' : rx'.filling = none) : BanksAgree (Function.update bank i .free) rx' order w := by
  obtain ⟨-, hi, hw⟩ := h.filling hx
  exact h.update (by simp [hx', RxBank.isHeld, RxBank.isMerging, hi, hw])
    (fun j hj => by simp [hx, hx', Ne.symm hj]) h.nodup h.head

/-- The frame being received is kept: its bank is FULL and waits last (R126). -/
theorem BanksAgree.accept (h : BanksAgree bank rx order w) (hx : rx.filling = some i)
    (hx' : rx'.filling = none) (f : Received) :
    BanksAgree (Function.update bank i (.full f)) rx' (order ++ [i]) w := by
  obtain ⟨-, hi, hw⟩ := h.filling hx
  refine h.update (by simp [hx', RxBank.isHeld, RxBank.isMerging, hw])
    (fun j hj => by simp [hx, hx', hj, Ne.symm hj]) ?_ fun j hj => by simp [List.head?_append, h.head j hj]
  simpa [List.nodup_append, h.nodup] using fun j hj (e : j = i) => hi (e ▸ hj)

/-- A start delimiter claims a FREE bank (R124). -/
theorem BanksAgree.claim (h : BanksAgree bank rx order w) (hx : rx.filling = none)
    (hi : bank i = .free) (hx' : rx'.filling = some i) :
    BanksAgree (Function.update bank i .receiving) rx' order w :=
  h.update (by simp [hx', h.held i, ← h.merging i, hi, RxBank.isHeld, RxBank.isMerging])
    (fun j hj => by simp [hx, hx', Ne.symm hj]) h.nodup h.head

/-- The first waiting bank of an idle table is FULL, and its merge may begin (R95). -/
theorem BanksAgree.begin {rest : List RxId} (h : BanksAgree bank rx order .idle)
    (ho : order = i :: rest) :
    ∃ f, bank i = .full f ∧ BanksAgree (Function.update bank i (.merging f)) rx order (.merge i) := by
  have hheld := (h.held i).mp (by simp [ho])
  have hmerging := h.merging i
  obtain ⟨f, hf⟩ : ∃ f, bank i = .full f := by
    cases hb : bank i <;> simp_all [RxBank.isHeld, RxBank.isMerging]
  exact ⟨f, hf, h.update (by simp [← h.receiving i, hf, ho, RxBank.isHeld, RxBank.isMerging])
    (fun j hj => by simp [Ne.symm hj]) h.nodup fun j hj => by simp_all⟩

/-- A merge is in hand for a bank that is MERGING. -/
theorem BanksAgree.merge (h : BanksAgree bank rx order (.merge i)) : ∃ f, bank i = .merging f := by
  have hmerging := (h.merging i).mpr rfl
  cases hb : bank i <;> simp_all [RxBank.isMerging]

/-- A merge in hand at a close is abandoned: its bank is FULL again and waits first (R101). -/
theorem BanksAgree.abandon (h : BanksAgree bank rx order (.merge i)) (x : View) :
    ∃ f, bank i = .merging f ∧ BanksAgree (Function.update bank i (.full f)) rx order (.copy x) := by
  obtain ⟨f, hf⟩ := h.merge
  exact ⟨f, hf, h.update (by simp [← h.receiving i, h.held i, hf, RxBank.isHeld, RxBank.isMerging])
    (fun j hj => by simp [Ne.symm hj]) h.nodup nofun⟩

/-- A merge ends: its bank is FREE and waits no longer (R95). -/
theorem BanksAgree.finish (h : BanksAgree bank rx order (.merge i)) :
    BanksAgree (Function.update bank i .free) rx (order.erase i) .idle := by
  obtain ⟨f, hf⟩ := h.merge
  exact h.update
    (by simp [← h.receiving i, hf, h.nodup.mem_erase_iff, RxBank.isHeld, RxBank.isMerging])
    (fun j hj => by simp [hj, Ne.symm hj, h.nodup.mem_erase_iff]) (h.nodup.erase i) nofun

/-- Where the table merges nothing, its work may change to anything but a merge. -/
theorem BanksAgree.of_work {w' : TableWork} (h : BanksAgree bank rx order w)
    (hw : ∀ i, w ≠ .merge i) (hw' : ∀ i, w' ≠ .merge i) : BanksAgree bank rx order w' :=
  { h with
    merging := fun i => (h.merging i).trans ⟨fun e => absurd e (hw i), fun e => absurd e (hw' i)⟩
    head := fun i e => absurd e (hw' i) }

end Banks

/-! ## The line controller's part -/

/-- The receive side of the line controller agrees with the table's work; a bank is filled on a busy line
only, and the receiver is off in SENDING (R112, R123). -/
structure LineSound (l : LineController) (w : TableWork) : Prop where
  banks : BanksAgree l.bank l.rx l.order w
  busy : l.rx.filling ≠ none → l.busy = true
  sending : l.contention = .sending → l.rx = .off

theorem receiveSound_iff :
    ReceiveSound s ↔ LineSound s.line s.peers.work ∧ (s.peers.work = .idle → s.line.order = [])
      ∧ (s.station.state.live = false → s.peers.work = .idle ∧ s.line.rx = .off) := by
  constructor
  · rintro ⟨hreceiving, hbusy, hnodup, hheld, hmerging, hhead, hidle, hsending, hdead⟩
    exact ⟨⟨⟨hreceiving, hnodup, hheld, hmerging, hhead⟩, hbusy, hsending⟩, hidle, hdead⟩
  · rintro ⟨⟨⟨hreceiving, hnodup, hheld, hmerging, hhead⟩, hbusy, hsending⟩, hidle, hdead⟩
    exact ⟨hreceiving, hbusy, hnodup, hheld, hmerging, hhead, hidle, hsending, hdead⟩

/-- `m` differs from `l` on the transmit side at most: the receiver and its banks stand, the line does not
become idle, and no frame begins to be sent. -/
structure TransmitSide (l m : LineController) : Prop where
  rx : m.rx = l.rx
  bank : m.bank = l.bank
  order : m.order = l.order
  busy : l.busy = true → m.busy = true
  sending : m.contention = .sending → l.contention = .sending

theorem LineController.bank_eq (ha : m.bankA = l.bankA) (hb : m.bankB = l.bankB) : m.bank = l.bank :=
  funext (LineController.bank_congr ha hb)

theorem LineSound.of_transmitSide {w : TableWork} (h : LineSound l w) (hm : TransmitSide l m) :
    LineSound m w where
  banks := by rw [hm.bank, hm.rx, hm.order]; exact h.banks
  busy := by rw [hm.rx]; exact fun hf => hm.busy (h.busy hf)
  sending := by rw [hm.rx]; exact fun hc => h.sending (hm.sending hc)

theorem TransmitSide.trans {n : LineController} (h : TransmitSide l m) (h' : TransmitSide m n) :
    TransmitSide l n :=
  ⟨h'.rx.trans h.rx, h'.bank.trans h.bank, h'.order.trans h.order, h'.busy ∘ h.busy,
    h.sending ∘ h'.sending⟩

theorem transmitSide_countFailure (l : LineController) : TransmitSide l l.countFailure :=
  ⟨rfl, rfl, rfl, id, id⟩

theorem transmitSide_drop (l : LineController) : TransmitSide l l.drop :=
  ⟨rfl, rfl, rfl, id, nofun⟩

theorem transmitSide_enterBackoff (l : LineController) : TransmitSide l l.enterBackoff := by
  refine ⟨rfl, rfl, rfl, id, fun hc => ?_⟩
  obtain ⟨e, -⟩ | ⟨e, -⟩ := l.enterBackoff_cases <;> simp [e] at hc

theorem transmitSide_checkFailed (l : LineController) : TransmitSide l l.checkFailed := by
  obtain ⟨-, e⟩ | ⟨-, e⟩ := l.checkFailed_cases <;> rw [e]
  · exact (transmitSide_countFailure l).trans (transmitSide_drop _)
  · exact (transmitSide_countFailure l).trans (transmitSide_enterBackoff _)

theorem transmitSide_collide (l : LineController) : TransmitSide l l.collide := by
  obtain ⟨-, e⟩ | ⟨-, -, e⟩ := l.collide_cases <;> rw [e]
  · exact (transmitSide_countFailure l).trans (transmitSide_drop _)
  · exact (transmitSide_countFailure l).trans (transmitSide_enterBackoff _)

theorem transmitSide_deadline (l : LineController) : TransmitSide l l.deadline := by
  obtain ⟨-, e⟩ | ⟨-, e⟩ | ⟨-, e⟩ := l.deadline_cases <;> rw [e]
  · exact ⟨rfl, rfl, rfl, id, id⟩
  · exact transmitSide_drop l
  · exact ⟨rfl, rfl, rfl, id, id⟩

theorem transmitSide_fill (l : LineController) (f : SlotFrame) : TransmitSide l (l.fill f) :=
  TransmitSide.trans (m := { l with slot := some f, nb := 0, be := 2, mark := false })
    ⟨rfl, rfl, rfl, id, id⟩ (transmitSide_enterBackoff _)

theorem transmitSide_goBusy (l : LineController) : TransmitSide l l.goBusy := by
  obtain ⟨-, -, e⟩ | ⟨-, e⟩ := l.goBusy_cases <;> rw [e]
  · have h := transmitSide_checkFailed { l with busy := true }
    exact ⟨h.rx, h.bank, h.order, fun _ => h.busy rfl, h.sending⟩
  · exact ⟨rfl, rfl, rfl, fun _ => rfl, id⟩

@[simp] theorem LineController.goBusy_busy (l : LineController) : l.goBusy.busy = true := by
  obtain ⟨-, -, e⟩ | ⟨-, e⟩ := l.goBusy_cases <;> rw [e]
  exact (transmitSide_checkFailed _).busy rfl

/-! ### The banks after an operation of the receive side -/

theorem LineController.bank_setBank_eq (l : LineController) (i : RxId) (b : RxBank) :
    (l.setBank i b).bank = Function.update l.bank i b := funext fun j => by rw [l.bank_setBank, Function.update_apply]

/-- A controller whose banks are those of `l` with one replaced. -/
theorem BanksAgree.of_setBank {i : RxId} {b : RxBank} {rx : Receiver} {order : List RxId} {w : TableWork}
    (h : BanksAgree (Function.update l.bank i b) rx order w) (ha : m.bankA = (l.setBank i b).bankA)
    (hb : m.bankB = (l.setBank i b).bankB) (hx : m.rx = rx) (ho : m.order = order) :
    BanksAgree m.bank m.rx m.order w := by
  rw [LineController.bank_eq ha hb, LineController.bank_setBank_eq, hx, ho]
  exact h

/-! ### The operations of the receive side -/

section Moves

variable {w : TableWork} {i : RxId}

/-- A line that fills a bank is not SENDING. -/
theorem LineSound.not_sending (h : LineSound l w) (hx : l.rx ≠ .off) : l.contention ≠ .sending :=
  fun hc => hx (h.sending hc)

/-- A reception in hand that ends with nothing kept frees its bank, whatever it counts. -/
theorem LineSound.freed (h : LineSound l w) (hx : l.rx.filling = some i) (n : Nat) :
    LineSound { l.setBank i .free with rx := .waitIdle, badFrames := n } w where
  banks := (h.banks.release hx rfl).of_setBank rfl rfl rfl (by simp)
  busy := nofun
  sending := fun hc => absurd (by simpa using hc) (h.not_sending (by rintro e; simp [e, Receiver.filling] at hx))

theorem LineSound.failFrame (h : LineSound l w) (hx : l.rx.filling = some i) :
    LineSound (l.failFrame i) w := h.freed hx _

theorem LineSound.dropForeign (h : LineSound l w) (hx : l.rx.filling = some i) :
    LineSound (l.dropForeign i) w := h.freed hx _

theorem LineSound.acceptFrame (h : LineSound l w) (hx : l.rx.filling = some i) (f : Received) :
    LineSound (l.acceptFrame i f) w where
  banks := (h.banks.accept hx rfl f).of_setBank rfl rfl rfl rfl
  busy := nofun
  sending := fun hc => absurd (by simpa [LineController.acceptFrame] using hc)
    (h.not_sending (by rintro e; simp [e, Receiver.filling] at hx))

theorem LineSound.received (h : LineSound l w) (hx : l.rx = .body i) (g : BitVec 4)
    (body : Vector Byte 33) (crc : BitVec 16) (stamp : Num) :
    LineSound (l.received i g body crc stamp) w := by
  have hfill : l.rx.filling = some i := by rw [hx]; rfl
  obtain ⟨-, -, e⟩ | ⟨-, -, e⟩ | ⟨-, e⟩ := l.received_cases i g body crc stamp <;> rw [e]
  · exact h.acceptFrame hfill _
  · exact h.dropForeign hfill
  · exact h.failFrame hfill

theorem LineSound.lengthChecked (h : LineSound l w) (hx : l.rx = .length i) (len : Byte) :
    LineSound (l.lengthChecked i len) w := by
  obtain ⟨-, e⟩ | ⟨-, e⟩ := l.lengthChecked_cases i len <;> rw [e]
  · exact
      { banks := h.banks.of_filling (by rw [hx]; rfl)
        busy := fun _ => h.busy (by simp [hx, Receiver.filling])
        sending := fun hc => absurd hc (h.not_sending (by simp [hx])) }
  · exact h.failFrame (by rw [hx]; rfl)

/-- The line goes idle with nothing being received. -/
theorem LineSound.hunt (h : LineSound l w) (hx : l.rx.filling = none) (hc : l.contention ≠ .sending) :
    LineSound { l with busy := false, rx := .hunting } w where
  banks := h.banks.of_filling hx.symm
  busy := by simp [Receiver.filling]
  sending := fun hs => absurd hs hc

theorem LineSound.goIdle (h : LineSound l w) : LineSound l.goIdle w := by
  obtain ⟨-, e⟩ | ⟨hc, i, hx, e⟩ | ⟨hc, hx, e⟩ := l.goIdle_cases <;> rw [e]
  · exact h
  · exact (h.failFrame hx).hunt rfl (by simpa [LineController.failFrame] using hc)
  · exact h.hunt hx hc

/-- The receiver takes a delimiter on a busy line (R124). -/
theorem LineSound.delimiter (h : LineSound l w) (hx : l.rx = .hunting) (hb : l.busy = true) :
    LineSound l.delimiter w := by
  have hfill : l.rx.filling = none := by rw [hx]; rfl
  have hc := h.not_sending (by simp [hx])
  obtain ⟨i, hi, e⟩ | ⟨-, e⟩ := l.delimiter_cases <;> rw [e]
  · exact
      { banks := (h.banks.claim hfill hi rfl).of_setBank rfl rfl rfl (by simp)
        busy := fun _ => by simpa using hb
        sending := fun hs => absurd (by simpa using hs) hc }
  · exact
      { banks := h.banks.of_filling hfill.symm
        busy := by simp [Receiver.filling]
        sending := fun hs => absurd hs hc }

/-- Every command of the line alone keeps the receive side sound, and the frames that wait. -/
theorem LineSound.move (h : LineSound l w) (hm : LineMove l m) : LineSound m w := by
  cases hm with
  | check _ => exact h.of_transmitSide ⟨rfl, rfl, rfl, id, nofun⟩
  | send _ hb =>
    have hfill : l.rx.filling = none := by
      by_contra hx
      simp [h.busy hx] at hb
    exact ⟨h.banks.of_filling hfill.symm, fun _ => rfl, fun _ => rfl⟩
  | busy => exact h.of_transmitSide (transmitSide_goBusy l)
  | idle => exact h.goIdle
  | collide _ => exact h.of_transmitSide (transmitSide_collide l)
  | delimiter hx =>
    exact (h.of_transmitSide (transmitSide_goBusy l)).delimiter ((transmitSide_goBusy l).rx.trans hx)
      l.goBusy_busy
  | length i len hx => exact h.lengthChecked hx len

end Moves

/-- No command of the line alone changes what waits for the table (R95). -/
theorem LineMove.order (hm : LineMove l m) : m.order = l.order := by
  cases hm with
  | check | send => rfl
  | busy => exact (transmitSide_goBusy l).order
  | idle =>
    obtain ⟨-, e⟩ | ⟨-, i, -, e⟩ | ⟨-, -, e⟩ := l.goIdle_cases <;> simp [e, LineController.failFrame]
  | collide => exact (transmitSide_collide l).order
  | delimiter =>
    rw [← (transmitSide_goBusy l).order]
    obtain ⟨i, -, e⟩ | ⟨-, e⟩ := l.goBusy.delimiter_cases <;> simp [e]
  | length i len =>
    obtain ⟨-, e⟩ | ⟨-, e⟩ := l.lengthChecked_cases i len <;> simp [e, LineController.failFrame]

/-! ## The whole part -/

/-- Starting a merge leaves the table idle only where no frame waits (R95). -/
theorem State.startMerge_cases_idle (s : State) :
    (s.startMerge = s ∧ (s.peers.work = .idle → s.line.order = []))
      ∨ ∃ i rest, s.peers.work = .idle ∧ s.line.order = i :: rest
        ∧ s.startMerge =
          { s with peers := { s.peers with work := .merge i }, line := s.line.beginMerge i } := by
  obtain e | h := s.startMerge_cases
  · refine .inl ⟨e, fun hw => ?_⟩
    cases ho : s.line.order with
    | nil => rfl
    | cons i rest =>
      have hwork := congrArg (fun s => s.peers.work) e
      simp [State.startMerge, hw, ho] at hwork
  · exact .inr h

/-- Where the receive side is sound, the start of a merge makes it agree with an idle table too. -/
theorem LineSound.startMerge (h : LineSound s.line s.peers.work) (hl : s.station.state.live = true) :
    ReceiveSound s.startMerge := by
  rw [receiveSound_iff]
  obtain ⟨e, hidle⟩ | ⟨i, rest, hw, ho, e⟩ := s.startMerge_cases_idle <;> rw [e]
  · exact ⟨h, hidle, fun hn => by simp [hl] at hn⟩
  · rw [hw] at h
    obtain ⟨f, hf, hbanks⟩ := h.banks.begin ho
    have hbegin : s.line.beginMerge i = s.line.setBank i (.merging f) := by
      simp [LineController.beginMerge, hf]
    rw [hbegin]
    exact ⟨⟨hbanks.of_setBank rfl rfl (by simp) (by simp), by simpa using h.busy, by simpa using h.sending⟩,
      nofun, fun hn => by simp [hl] at hn⟩

/-- Two FREE banks agree with a receiver that fills none and an idle table. -/
theorem lineSound_free (ha : l.bankA = .free) (hb : l.bankB = .free) (ho : l.order = [])
    (hx : l.rx.filling = none) (hc : l.contention = .quiet) : LineSound l .idle := by
  have hbank : ∀ i, l.bank i = .free := fun i => by cases i <;> assumption
  refine ⟨⟨fun i => ?_, by simp [ho], fun i => ?_, fun i => ?_, nofun⟩, fun h => absurd hx h, ?_⟩
  · simp [hbank, hx]
  · simp [hbank, ho, RxBank.isHeld]
  · simp [hbank, RxBank.isMerging]
  · simp [hc]

theorem resets_receiveSound {c : Instr} (h : Resets s c t) : ReceiveSound t := by
  rw [receiveSound_iff]
  cases h <;> exact ⟨lineSound_free rfl rfl rfl rfl rfl, fun _ => rfl, fun _ => ⟨rfl, rfl⟩⟩

theorem receiveSound_enterFault (s : State) : ReceiveSound s.enterFault :=
  receiveSound_iff.mpr ⟨lineSound_free rfl rfl rfl rfl rfl, fun _ => rfl, fun _ => ⟨rfl, rfl⟩⟩

/-- In LISTEN, ACTIVE and HOLD the line and the waiting frames are all there is to show. -/
theorem receiveSound_of_live (hl : s.station.state.live = true) (h : LineSound s.line s.peers.work)
    (hidle : s.peers.work = .idle → s.line.order = []) : ReceiveSound s :=
  receiveSound_iff.mpr ⟨h, hidle, fun hn => by simp [hl] at hn⟩

/-- A table at work belongs to a station in LISTEN, ACTIVE or HOLD. -/
theorem ReceiveSound.live_of_work (h : ReceiveSound s) (hw : s.peers.work ≠ .idle) :
    s.station.state.live = true := by
  obtain ⟨-, -, hdead⟩ := receiveSound_iff.mp h
  by_contra hl
  exact hw (hdead (by simpa using hl)).1

/-- A close takes a merge in hand back and begins its copy (R101). -/
theorem LineSound.close {w : TableWork} (h : LineSound l w) (hw : w.copying = false) (x : View) :
    LineSound (abandonWork w l) (.copy x) := by
  cases w with
  | idle => exact ⟨h.banks.of_work nofun nofun, h.busy, h.sending⟩
  | merge i =>
    obtain ⟨f, hf, hbanks⟩ := h.banks.abandon x
    have hab : abandonWork (.merge i) l = l.setBank i (.full f) := by
      simp [abandonWork, LineController.abandonMerge, hf]
    rw [hab]
    exact ⟨hbanks.of_setBank rfl rfl (by simp) (by simp), by simpa using h.busy, by simpa using h.sending⟩
  | copy => cases hw

/-- The bank of a merge that has ended is FREE and waits no longer (R95). -/
theorem LineSound.endMerge {i : RxId} (h : LineSound l (.merge i)) : LineSound (l.endMerge i) .idle where
  banks := h.banks.finish.of_setBank rfl rfl (by simp [LineController.endMerge]) rfl
  busy := by simpa [LineController.endMerge] using h.busy
  sending := by simpa [LineController.endMerge] using h.sending

theorem ReceiveSound.acts (hr : RunsOnlyLive s) (h : ReceiveSound s) (a : Acts s t) : ReceiveSound t := by
  obtain ⟨hline, hidle, hdead⟩ := receiveSound_iff.mp h
  cases a with
  | nothing | silence | scan | runInFault => exact h
  | expiry | status => simpa [ReceiveSound] using h
  | off p w x hoff =>
    exact receiveSound_iff.mpr ⟨hline, hidle, fun _ => hdead (by rw [hoff]; rfl)⟩
  | listen p image v hs =>
    have hw : s.peers.work = .idle := (hdead (by rw [hs]; rfl)).1
    refine receiveSound_of_live rfl ?_ fun _ => rfl
    change LineSound (s.line.start v.serial) s.peers.work
    rw [hw]
    exact lineSound_free rfl rfl rfl rfl rfl
  | badImage | conflict => exact receiveSound_enterFault _
  | deadline sc check hs =>
    have hside := transmitSide_deadline s.line
    exact receiveSound_of_live (hr.live_of_scan hs) (hline.of_transmitSide hside)
      fun hw => hside.order.trans (hidle hw)
  | close sc v check quench hs _ _ _ hw =>
    exact receiveSound_of_live (hr.live_of_scan hs) (hline.close hw _) nofun
  | copied w hw =>
    rw [hw] at hline
    exact LineSound.startMerge
      ⟨hline.banks.of_work nofun nofun, hline.busy, hline.sending⟩ (h.live_of_work (by simp [hw]))
  | run r v _ _ _ hl _ =>
    have hside := transmitSide_fill s.line (shareFrame (frameFields v s (handover v r s)))
    exact receiveSound_of_live (State.completeRun_live v r hl) (hline.of_transmitSide hside)
      fun hw => hside.order.trans (hidle hw)
  | line l hl m =>
    exact receiveSound_of_live hl (hline.move m) fun hw => m.order.trans (hidle hw)
  | sent f hl =>
    exact receiveSound_of_live hl (hline.of_transmitSide ⟨rfl, rfl, rfl, id, nofun⟩) hidle
  | received v i body crc hx hl => exact LineSound.startMerge (hline.received hx _ _ _ _) hl
  | merged i f es n hw =>
    rw [hw] at hline
    exact LineSound.startMerge hline.endMerge (h.live_of_work (by simp [hw]))

/-- Settles O48: the receive side keeps sound under every kind of command, a table left idle with a frame
waiting starting its merge at once. -/
theorem receiveSoundKept : Obligations.ReceiveSoundKept := by
  intro s t
  refine kept_of_acts (P := fun s => RunsOnlyLive s ∧ ReceiveSound s) (fun _ _ h => h)
    (fun _ _ _ h => ⟨resets_runsOnlyLive h, resets_receiveSound h⟩) (fun _ _ h a => ?_)
  obtain ⟨hruns, hreceive⟩ := h
  exact ⟨hruns.acts a, hreceive.acts hruns a⟩

end Sys2Proof.Machine
end

section
/-! The sample store: what a write, a rotation and a release leave in each bank, the cycle index of the next
record, and the law of the store. -/

namespace Sys2Proof.Machine

open Sys2Proof

variable {s t : State}

/-! ## What the operations of the store leave in each bank -/

/-- The first bank of a kind depends on the states only. -/
theorem SampleStore.first_congr {a b : SampleStore} {p : BankState → Bool}
    (h : ∀ j, p (a.get j).state = p (b.get j).state) : a.first p = b.first p := by
  have ha : p a.a.state = p b.a.state := h .a
  have hb : p a.b.state = p b.b.state := h .b
  have hc : p a.c.state = p b.c.state := h .c
  simp only [SampleStore.first, ha, hb, hc]

section Filling

variable {st : SampleStore} {i : BankId} {k : Num}

/-- The one FILLING bank is the first of its kind. -/
theorem SampleStore.first_filling (h : ∀ j, (st.get j).state = .filling ↔ j = i) :
    st.first BankState.isFilling = some i :=
  SampleStore.first_unique ((BankState.isFilling_iff _).mpr ((h i).mpr rfl)) fun j hj =>
    (h j).mp ((BankState.isFilling_iff _).mp hj)

/-- The record goes into the FILLING bank (R13). -/
theorem SampleStore.get_write (h : ∀ j, (st.get j).state = .filling ↔ j = i) (r : ScanRecord)
    (j : BankId) : (st.write r).get j = if j = i then (st.get i).write r else st.get j := by
  simp [SampleStore.write, SampleStore.first_filling h]

/-- The FILLING bank becomes READY (R14). -/
theorem SampleStore.get_makeReady (h : ∀ j, (st.get j).state = .filling ↔ j = i) (j : BankId) :
    (st.makeReady k).get j = if j = i then { st.get i with state := .ready k } else st.get j := by
  simp [SampleStore.makeReady, SampleStore.first_filling h]

/-- The first FREE bank becomes FILLING, where there is one (R14). -/
theorem SampleStore.get_nextFill (st : SampleStore) (j : BankId) :
    st.nextFill.get j
      = if st.first BankState.isFree = some j then (st.get j).beginFill else st.get j := by
  unfold SampleStore.nextFill
  cases st.first BankState.isFree with
  | none => simp
  | some f => by_cases q : j = f <;> simp [q, eq_comm]

/-- A record written changes the state of no bank. -/
theorem SampleStore.write_state (st : SampleStore) (r : ScanRecord) (j : BankId) :
    ((st.write r).get j).state = (st.get j).state := by
  unfold SampleStore.write
  cases st.first BankState.isFilling with
  | none => rfl
  | some f => by_cases q : j = f <;> simp [q]

/-- Each bank after the last record of an interval and the rotation of its close: the first FREE bank begins,
the FILLING bank is READY with its last record, the third stands (R13, R14). -/
theorem SampleStore.get_close (h : ∀ j, (st.get j).state = .filling ↔ j = i) (r : ScanRecord)
    (j : BankId) :
    ((st.write r).rotate k).get j
      = if st.first BankState.isFree = some j then (st.get j).beginFill
        else if j = i then { (st.get i).write r with state := .ready k } else st.get j := by
  have hw : ∀ j, ((st.write r).get j).state = .filling ↔ j = i := by
    simpa only [SampleStore.write_state] using h
  have hfree : ((st.write r).makeReady k).first BankState.isFree = st.first BankState.isFree := by
    refine SampleStore.first_congr fun m => ?_
    by_cases q : m = i
    · simp [SampleStore.get_makeReady hw, q, (h i).mpr rfl, BankState.isFree]
    · simp [SampleStore.get_makeReady hw, q, SampleStore.write_state]
  have hi : st.first BankState.isFree ≠ some i := fun hf => by
    simpa [(h i).mpr rfl, BankState.isFree] using SampleStore.first_some hf
  rw [SampleStore.rotate, SampleStore.get_nextFill, hfree, SampleStore.get_makeReady hw,
    SampleStore.get_write h, SampleStore.get_write h]
  by_cases q : j = i <;> simp [q, hi]

/-- The banks a close reports: the READY one and the FILLING one of before (R14). -/
theorem SampleStore.window_write (h : ∀ j, (st.get j).state = .filling ↔ j = i) (r : ScanRecord) :
    (st.write r).window = (st.first BankState.isReady).map fun o => (o, i) := by
  have hstate : ∀ p : BankState → Bool, (st.write r).first p = st.first p := fun p =>
    SampleStore.first_congr fun j => by rw [SampleStore.write_state]
  unfold SampleStore.window
  rw [hstate, hstate, SampleStore.first_filling h]
  cases st.first BankState.isReady <;> rfl

end Filling

/-- Of three banks, the one that is neither of two is the third. -/
theorem BankId.eq_third {i o n j : BankId} (hio : i ≠ o) (hin : i ≠ n) (hon : o ≠ n) (hji : j ≠ i)
    (hjo : j ≠ o) : j = n := by
  cases i <;> cases o <;> cases n <;> cases j <;> simp_all

/-- With one bank FILLING and at most one READY, a third is FREE. -/
theorem SampleStore.exists_free {st : SampleStore} {i : BankId}
    (h : ∀ j, (st.get j).state = .filling ↔ j = i)
    (hready : ∀ j n, (st.get j).state = .ready n → ∀ m n', (st.get m).state = .ready n' → m = j) :
    ∃ f, st.first BankState.isFree = some f ∧ (st.get f).state = .free ∧ f ≠ i := by
  cases hf : st.first BankState.isFree with
  | some f =>
    have hfree := (BankState.isFree_iff _).mp (SampleStore.first_some hf)
    exact ⟨f, rfl, hfree, fun e => by simp [(h f).mpr e] at hfree⟩
  | none =>
    have hr : ∀ j, j ≠ i → ∃ n, (st.get j).state = .ready n := fun j hj => by
      have hnot := st.first_none hf j
      cases hs : (st.get j).state with
      | free => simp [hs, BankState.isFree] at hnot
      | filling => exact absurd ((h j).mp hs) hj
      | ready n => exact ⟨n, rfl⟩
    obtain ⟨j, m, hj, hm, hjm⟩ : ∃ j m : BankId, j ≠ i ∧ m ≠ i ∧ m ≠ j := by
      cases i
      · exact ⟨.b, .c, nofun, nofun, nofun⟩
      · exact ⟨.a, .c, nofun, nofun, nofun⟩
      · exact ⟨.a, .b, nofun, nofun, nofun⟩
    obtain ⟨n, hn⟩ := hr j hj
    obtain ⟨n', hn'⟩ := hr m hm
    exact absurd (hready j n hn m n' hn') hjm

/-- The three banks after a close: one that was FREE begins, the FILLING one is READY with its last record,
the third stands (R14). -/
theorem SampleStore.close_banks {st : SampleStore} {i : BankId}
    (h : ∀ j, (st.get j).state = .filling ↔ j = i)
    (hready : ∀ j n, (st.get j).state = .ready n → ∀ m n', (st.get m).state = .ready n' → m = j)
    (r : ScanRecord) (k : Num) :
    ∃ f, f ≠ i ∧ (st.get f).state = .free ∧ ((st.write r).rotate k).get f = (st.get f).beginFill
      ∧ ((st.write r).rotate k).get i = { (st.get i).write r with state := .ready k }
      ∧ ∀ j, j ≠ f → j ≠ i → ((st.write r).rotate k).get j = st.get j := by
  obtain ⟨f, hf, hfree, hfi⟩ := SampleStore.exists_free h hready
  refine ⟨f, hfi, hfree, ?_, ?_, fun j hjf hji => ?_⟩
  · rw [SampleStore.get_close h, if_pos hf]
  · rw [SampleStore.get_close h, hf, if_neg (by simpa using hfi), if_pos rfl]
  · rw [SampleStore.get_close h, hf, if_neg (by simpa using Ne.symm hjf), if_neg hji]

/-! ## Cycle indices -/

theorem toNat_index_succ (x : BitVec 6) : (x + 1).toNat = (x.toNat + 1) % 64 := BitVec.toNat_add x 1

theorem toNat_num_succ (n : Num) : (n + 1).toNat = (n.toNat + 1) % 65536 := BitVec.toNat_add n 1

theorem toNat_num_pred (n : Num) : (n - 1).toNat = (n.toNat + 65535) % 65536 := by
  rw [BitVec.toNat_sub, Nat.add_comm]
  rfl

/-- Within an interval the next cycle index is that of the next interval position (R4, R11). -/
theorem index_succ {x : BitVec 6} {n : Num} (h : x.toNat = indexIn n (intervalPosition x))
    (hx : intervalPosition x ≠ 31) :
    intervalPosition (x + 1) = intervalPosition x + 1
      ∧ (x + 1).toNat = indexIn n (intervalPosition x + 1) := by
  simp only [intervalPosition, indexIn, toNat_index_succ] at *
  omega

/-- The last cycle index of an interval is followed by the first of the next (R4, R11). -/
theorem index_succ_close {x : BitVec 6} {n : Num} (h : x.toNat = indexIn n (intervalPosition x))
    (hx : intervalPosition x = 31) :
    intervalPosition (x + 1) = 0 ∧ (x + 1).toNat = indexIn (n + 1) 0 := by
  simp only [intervalPosition, indexIn, toNat_index_succ, toNat_num_succ] at *
  omega

/-- The two intervals of run `k` give the 64 cycle indices of a cycle window in their order (R19, R37). -/
theorem indexIn_window (k : Num) {m : Nat} (hm : m < 64) :
    (if m < 32 then indexIn (k - 1) m else indexIn k (m - 32)) = (32 * (k.toNat % 2) + m) % 64 := by
  simp only [indexIn, toNat_num_pred]
  split <;> omega

theorem Acquisition.nextPosition_eq (a : Acquisition) : a.nextPosition = intervalPosition a.nextIndex := by
  unfold Acquisition.nextPosition Acquisition.nextIndex
  cases a.scan <;> rfl

theorem Acquisition.nextIndex_of_scan {a : Acquisition} {sc : Scan} (h : a.scan = some sc) :
    a.nextIndex = sc.index := by simp [Acquisition.nextIndex, h]

theorem Acquisition.nextIndex_of_idle {a : Acquisition} (h : a.scan = none) : a.nextIndex = a.next := by
  simp [Acquisition.nextIndex, h]

/-! ## The law of the store -/

/-- The law of the sample store for a part that runs: the acquisition unit, the store and the run in
flight. -/
structure StoreSound (a : Acquisition) (st : SampleStore) (run : Option Run) : Prop where
  filling : ∃ i, (∀ j, (st.get j).state = .filling ↔ j = i) ∧ (st.get i).fill = intervalPosition a.nextIndex
    ∧ (st.get i).Holds a.interval
  index : a.nextIndex.toNat = indexIn a.interval (intervalPosition a.nextIndex)
  ready : ∀ i n, (st.get i).state = .ready n → (st.get i).fill = 32 ∧ (st.get i).Holds n
  next : ∀ sc, a.scan = some sc → a.next = sc.index + 1
  inFlight : ∀ r, run = some r → r.number = a.closeNumber ∧ r.older ≠ r.newer
    ∧ (st.get r.older).state = .ready (r.number - 1) ∧ (st.get r.newer).state = .ready r.number
  waiting : run = none → ∀ i n, (st.get i).state = .ready n →
    n = a.closeNumber ∧ ∀ j m, (st.get j).state = .ready m → j = i

theorem storeLaw_iff :
    StoreLaw s ↔ (s.station.state.live = true → StoreSound s.acq s.store s.engine.run) := by
  unfold StoreLaw
  rw [s.acq.nextPosition_eq]
  refine forall_congr' fun _ => ⟨?_, ?_⟩
  · rintro ⟨⟨i, hi, hfill, hholds, huniq⟩, hindex, hready, hnext, hrun, hwait⟩
    exact ⟨⟨i, fun j => ⟨huniq j, fun e => e ▸ hi⟩, hfill, hholds⟩, hindex, hready, hnext, hrun, hwait⟩
  · rintro ⟨⟨i, hi, hfill, hholds⟩, hindex, hready, hnext, hrun, hwait⟩
    exact ⟨⟨i, (hi i).mpr rfl, hfill, hholds, fun j => (hi j).mp⟩, hindex, hready, hnext, hrun, hwait⟩

/-- The records of a run are those of its two intervals, in the order of their cycle indices. -/
theorem StoreSound.recordsOf {a : Acquisition} {st : SampleStore} {r : Run}
    (h : StoreSound a st (some r)) :
    (st.recordsOf r).length = 64
      ∧ ∀ m, m < 64 → ∃ x, (st.recordsOf r)[m]? = some x
        ∧ x.index.toNat = (32 * (r.number.toNat % 2) + m) % 64 := by
  obtain ⟨-, -, holder, hnewer⟩ := h.inFlight r rfl
  obtain ⟨hfillO, hholdsO⟩ := h.ready _ _ holder
  obtain ⟨hfillN, hholdsN⟩ := h.ready _ _ hnewer
  have hlenO := hholdsO.fill_le
  have hlenN := hholdsN.fill_le
  have hlen : ((st.get r.older).records.take 32).length = 32 := by simp; omega
  refine ⟨by simp [SampleStore.recordsOf, Config.scansPerInterval]; omega, fun m hm => ?_⟩
  rw [← indexIn_window r.number hm]
  unfold SampleStore.recordsOf Config.scansPerInterval
  by_cases q : m < 32
  · obtain ⟨x, hx, hxi⟩ := hholdsO m (by omega)
    refine ⟨x, ?_, by simpa [q] using hxi⟩
    rw [List.getElem?_append_left (by omega), List.getElem?_take_of_lt q, hx]
  · obtain ⟨x, hx, hxi⟩ := hholdsN (m - 32) (by omega)
    refine ⟨x, ?_, by simpa [q] using hxi⟩
    rw [List.getElem?_append_right (by omega), hlen, List.getElem?_take_of_lt (by omega), hx]

/-- The cycle indices of a cycle window are distinct. -/
theorem nodup_window {l : List ScanRecord} {c : Nat} (hlen : l.length = 64)
    (h : ∀ m, m < 64 → ∃ x, l[m]? = some x ∧ x.index.toNat = (c + m) % 64) :
    (l.map fun x => x.index).Nodup := by
  rw [List.nodup_iff_pairwise_ne, List.pairwise_map, List.pairwise_iff_getElem]
  intro i j hi hj hij e
  obtain ⟨x, hx, hxi⟩ := h i (by omega)
  obtain ⟨y, hy, hyi⟩ := h j (by omega)
  rw [List.getElem?_eq_getElem hi, Option.some.injEq] at hx
  rw [List.getElem?_eq_getElem hj, Option.some.injEq] at hy
  rw [hx, hy] at e
  rw [e] at hxi
  omega

/-! ### What each kind of command does to the law -/

/-- LISTEN entry: bank A begins interval 1 at cycle index 0 (R13). -/
theorem storeSound_start (p : Nat) :
    StoreSound (Acquisition.reset.start p) SampleStore.reset.start none where
  filling := ⟨.a, fun j => by cases j <;> decide, rfl, Bank.holds_beginFill _ _⟩
  index := by
    change (0 : BitVec 6).toNat = indexIn (0 + 1) (intervalPosition 0)
    decide
  ready := fun i n h => by cases i <;> cases h
  next := nofun
  inFlight := nofun
  waiting := fun _ i n h => by cases i <;> cases h

/-- The law reads of the acquisition unit the next cycle index, the interval and the scan in progress. -/
theorem StoreSound.of_acq {a b : Acquisition} {st : SampleStore} {run : Option Run}
    (h : StoreSound a st run) (hindex : b.nextIndex = a.nextIndex)
    (hclose : b.closeNumber = a.closeNumber) (hnext : ∀ sc, b.scan = some sc → b.next = sc.index + 1) :
    StoreSound b st run where
  filling := by rw [hindex, Acquisition.interval, hclose]; exact h.filling
  index := by rw [hindex, Acquisition.interval, hclose]; exact h.index
  ready := h.ready
  next := hnext
  inFlight := by rw [hclose]; exact h.inFlight
  waiting := by rw [hclose]; exact h.waiting

/-- An expiry takes the next cycle index for its scan (R4). -/
theorem StoreSound.expire {a : Acquisition} {st : SampleStore} {run : Option Run}
    (h : StoreSound a st run) (hs : a.scan = none) (p : Nat) (codes : Channels Code) :
    StoreSound (a.expire p codes) st run :=
  h.of_acq (by rw [Acquisition.nextIndex_of_idle hs]; rfl) rfl
    fun sc hsc => by obtain rfl : _ = sc := Option.some.inj hsc; rfl

section Scan

variable {a : Acquisition} {st : SampleStore} {run : Option Run} {sc : Scan}

/-- What the law says of a scan in progress: its cycle index is in the interval, and comes before the next. -/
theorem StoreSound.scan (h : StoreSound a st run) (hs : a.scan = some sc) :
    sc.index.toNat = indexIn a.interval (intervalPosition sc.index) ∧ a.next = sc.index + 1 := by
  rw [← Acquisition.nextIndex_of_scan hs]
  exact ⟨h.index, Acquisition.nextIndex_of_scan hs ▸ h.next sc hs⟩

/-- Away from the end of an interval a record makes the FILLING bank hold one more (R13). -/
theorem StoreSound.record (h : StoreSound a st run) (hs : a.scan = some sc)
    (hp : intervalPosition sc.index ≠ 31) (check : Code) :
    StoreSound (a.complete sc check) (st.write (scanRecord sc check)) run := by
  obtain ⟨i, hi, hfill, hholds⟩ := h.filling
  obtain ⟨hx, hnext⟩ := h.scan hs
  obtain ⟨hpos, hindex⟩ := index_succ hx hp
  rw [Acquisition.nextIndex_of_scan hs] at hfill
  have hnextIndex : (a.complete sc check).nextIndex = sc.index + 1 := by
    rw [Acquisition.nextIndex_of_idle (by simp), Acquisition.complete_next, hnext]
  have hclose : (a.complete sc check).closeNumber = a.closeNumber := by simp [hp]
  have hstate := st.write_state (scanRecord sc check)
  have hother : ∀ j n, (st.get j).state = .ready n →
      (st.write (scanRecord sc check)).get j = st.get j := fun j n hj => by
    rw [SampleStore.get_write hi, if_neg]
    rintro rfl
    simp [(hi j).mpr rfl] at hj
  refine ⟨⟨i, fun j => by rw [hstate, hi], ?_, ?_⟩, ?_, fun j n hj => ?_, by simp, ?_, ?_⟩
  · rw [SampleStore.get_write hi, if_pos rfl, hnextIndex, hpos, Bank.write_fill, hfill]
  · rw [SampleStore.get_write hi, if_pos rfl, Acquisition.interval, hclose]
    exact hholds.write (by rw [hfill]; exact hx)
  · rw [hnextIndex, Acquisition.interval, hclose, hpos]
    exact hindex
  · rw [hstate] at hj
    rw [hother j n hj]
    exact h.ready j n hj
  · rw [hclose]
    simpa only [hstate] using h.inFlight
  · rw [hclose]
    simpa only [hstate] using h.waiting

/-- The record at the end of an interval, and the rotation of its close: the bank is READY with its 32
records, a FREE bank begins, and a run starts where another bank was READY (R13, R14, R35). -/
theorem StoreSound.close (h : StoreSound a st none) (hs : a.scan = some sc)
    (hp : intervalPosition sc.index = 31) (check : Code) (told : BitVec 16) (e : Engine)
    (he : e.run = none) :
    StoreSound (a.complete sc check)
      ((st.write (scanRecord sc check)).rotate (a.complete sc check).closeNumber)
      (startRun e (st.write (scanRecord sc check)).window (a.complete sc check).closeNumber told).run := by
  obtain ⟨i, hi, hfill, hholds⟩ := h.filling
  obtain ⟨hx, hnext⟩ := h.scan hs
  obtain ⟨hpos, hindex⟩ := index_succ_close hx hp
  rw [Acquisition.nextIndex_of_scan hs, hp] at hfill
  have hclose : (a.complete sc check).closeNumber = a.interval := by simp [hp, Acquisition.interval]
  have hinterval : (a.complete sc check).interval = a.interval + 1 := by
    rw [Acquisition.interval, hclose]
  have hnextIndex : (a.complete sc check).nextIndex = sc.index + 1 := by
    rw [Acquisition.nextIndex_of_idle (by simp), Acquisition.complete_next, hnext]
  obtain ⟨f, hfi, hfree, hgetf, hgeti, hother⟩ := SampleStore.close_banks hi
    (fun j n hj m n' hm => (h.waiting rfl j n hj).2 m n' hm) (scanRecord sc check) a.interval
  rw [hclose]
  refine ⟨⟨f, fun j => ?_, ?_, ?_⟩, ?_, fun j n hj => ?_, by simp, fun r hr => ?_, fun hr j n hj => ?_⟩
  · by_cases hjf : j = f
    · simp [hjf, hgetf, Bank.beginFill]
    · by_cases hji : j = i
      · simp [hji, hgeti, Ne.symm hfi]
      · simp [hother j hjf hji, hi, hjf, hji]
  · rw [hgetf, hnextIndex, hpos]
    rfl
  · rw [hgetf]
    exact Bank.holds_beginFill _ _
  · rw [hnextIndex, hpos, hinterval]
    exact hindex
  · by_cases hjf : j = f
    · simp [hjf, hgetf, Bank.beginFill] at hj
    · by_cases hji : j = i
      · rw [hji, hgeti] at hj ⊢
        obtain rfl : a.interval = n := BankState.ready.inj hj
        exact ⟨by rw [Bank.write_fill, hfill], hholds.write (by rw [hfill, ← hp]; exact hx)⟩
      · rw [hother j hjf hji] at hj ⊢
        exact h.ready j n hj
  · rw [SampleStore.window_write hi] at hr
    cases ho : st.first BankState.isReady with
    | none => simp [ho, startRun, he] at hr
    | some o =>
      obtain ⟨n, hn⟩ := (BankState.isReady_iff _).mp (SampleStore.first_some ho)
      obtain ⟨rfl, -⟩ := h.waiting rfl o n hn
      have hoi : o ≠ i := fun e => by simp [e, (hi i).mpr rfl] at hn
      have hof : o ≠ f := fun e => by simp [e, hfree] at hn
      simp only [ho, Option.map_some, startRun, Option.some.injEq] at hr
      subst hr
      refine ⟨hclose.symm, hoi, ?_, ?_⟩
      · rw [hother o hof hoi, hn, Acquisition.interval, BitVec.add_sub_cancel]
      · rw [hgeti]
  · rw [SampleStore.window_write hi] at hr
    have hnone : ∀ m n', (st.get m).state ≠ .ready n' := fun m n' hm => by
      cases ho : st.first BankState.isReady with
      | none => simpa [hm, BankState.isReady] using st.first_none ho m
      | some o => simp [ho, startRun] at hr
    have only : ∀ m n',
        (((st.write (scanRecord sc check)).rotate a.interval).get m).state = .ready n' → m = i :=
      fun m n' hm => by
        by_contra hmi
        by_cases hmf : m = f
        · simp [hmf, hgetf, Bank.beginFill] at hm
        · exact hnone m n' (hother m hmf hmi ▸ hm)
    obtain rfl := only j n hj
    rw [hgeti] at hj
    exact ⟨(BankState.ready.inj hj).symm.trans hclose.symm, only⟩

end Scan

/-- A run completion frees the older of its two banks, and the newer is the one left READY (R15). -/
theorem StoreSound.release {a : Acquisition} {st : SampleStore} {r : Run}
    (h : StoreSound a st (some r)) : StoreSound a (st.release r.older) none := by
  obtain ⟨i, hi, hfill, hholds⟩ := h.filling
  obtain ⟨hnumber, hne, holder, hnewer⟩ := h.inFlight r rfl
  have hio : i ≠ r.older := fun e => by simp [← e, (hi i).mpr rfl] at holder
  have hin : i ≠ r.newer := fun e => by simp [← e, (hi i).mpr rfl] at hnewer
  have hget : ∀ j, (st.release r.older).get j
      = if j = r.older then { st.get r.older with state := .free } else st.get j := fun j => by
    simp [SampleStore.release]
  have hready : ∀ j n, ((st.release r.older).get j).state = .ready n →
      j ≠ r.older ∧ (st.get j).state = .ready n := fun j n hj => by
    by_cases q : j = r.older
    · simp [hget, q] at hj
    · exact ⟨q, by simpa [hget, q] using hj⟩
  have only : ∀ j n, ((st.release r.older).get j).state = .ready n → j = r.newer := fun j n hj => by
    obtain ⟨hjo, hj⟩ := hready j n hj
    exact BankId.eq_third hio hin hne (fun e => by simp [(hi j).mpr e] at hj) hjo
  refine ⟨⟨i, fun j => ?_, ?_, ?_⟩, h.index, fun j n hj => ?_, h.next, nofun, fun _ j n hj => ⟨?_, ?_⟩⟩
  · by_cases q : j = r.older
    · simp [hget, q, Ne.symm hio]
    · simp [hget, q, hi]
  · rw [hget, if_neg hio, hfill]
  · rw [hget, if_neg hio]
    exact hholds
  · obtain ⟨hjo, hj⟩ := hready j n hj
    rw [hget, if_neg hjo]
    exact h.ready j n hj
  · have hj' := (hready j n hj).2
    rw [only j n hj, hnewer] at hj'
    exact (BankState.ready.inj hj').symm.trans hnumber
  · exact fun m n' hm => (only m n' hm).trans (only j n hj).symm

/-! ### Every step keeps it -/

/-- A step that leaves the acquisition unit, the store and the run in flight keeps the law. -/
theorem StoreLaw.of_same (h : StoreLaw s) (hl : t.station.state.live = true → s.station.state.live = true)
    (ha : t.acq = s.acq) (hst : t.store = s.store) (he : t.engine.run = s.engine.run) : StoreLaw t := by
  rw [storeLaw_iff] at h ⊢
  rw [ha, hst, he]
  exact fun ht => h (hl ht)

theorem storeLaw_of_not_live (h : s.station.state.live = false) : StoreLaw s :=
  fun hl => by simp [h] at hl

theorem resets_storeLaw {c : Instr} (h : Resets s c t) : StoreLaw t :=
  storeLaw_of_not_live (by rw [(resets_off h).1]; rfl)

theorem StoreLaw.acts (hr : RestsInOff s) (h : StoreLaw s) (a : Acts s t) : StoreLaw t := by
  have hs := storeLaw_iff.mp h
  cases a with
  | nothing | silence | line | sent => exact h
  | status | copied | received | merged => exact h.of_same (by simp) (by simp) (by simp) (by simp)
  | off p w x _ hx => exact storeLaw_of_not_live (by rcases hx with rfl | rfl <;> rfl)
  | badImage | conflict => exact storeLaw_of_not_live rfl
  | runInFault r v _ hf =>
    exact storeLaw_of_not_live (by rw [State.completeRunInFault_station, hf]; rfl)
  | listen p image v hsetup =>
    obtain ⟨-, hacq, hstore, hengine, -⟩ := hr (.inr hsetup)
    rw [storeLaw_iff]
    intro _
    simp only [State.enterListen_acq, State.enterListen_store, State.enterListen_engine, hacq, hstore,
      hengine]
    exact storeSound_start _
  | expiry codes _ hscan =>
    rw [storeLaw_iff]
    simpa using fun hl => (hs hl).expire hscan s.sync.period codes
  | scan sc check hscan hp => exact storeLaw_iff.mpr fun hl => (hs hl).record hscan hp check
  | deadline sc check hscan hp =>
    exact storeLaw_iff.mpr fun hl => (hs hl).record hscan (by omega) check
  | close sc v check quench hscan _ hp he =>
    refine storeLaw_iff.mpr fun hl => StoreSound.close ?_ hscan hp check _ _ he
    rw [← he]
    exact hs hl
  | run r v he _ _ hl =>
    rw [he] at hs
    exact storeLaw_iff.mpr fun _ => (hs hl).release

/-- Settles O20: the law holds again after every kind of command, and gives a run its 64 records in the order
of their cycle indices. -/
theorem storeLawKept : Obligations.StoreLawKept := by
  refine ⟨fun s t => ?_, fun s h hl => ?_⟩
  · refine kept_of_acts (P := fun s => RestsInOff s ∧ StoreLaw s) (fun _ _ h => h)
      (fun _ _ _ h => ⟨resets_restsInOff h, resets_storeLaw h⟩) (fun _ _ h a => ?_)
    obtain ⟨hrest, hstore⟩ := h
    exact ⟨hrest.acts a, hstore.acts hrest a⟩
  · have hs := storeLaw_iff.mp h hl
    refine ⟨fun r hr => ?_, ?_⟩
    · rw [hr] at hs
      obtain ⟨hlen, hindex⟩ := hs.recordsOf
      exact ⟨hlen, nodup_window hlen hindex, hindex⟩
    · obtain ⟨i, hi, hfill, hholds⟩ := hs.filling
      exact ⟨i, hi, by rw [hfill]; exact Nat.mod_lt _ (by decide), hholds.fill_le⟩

end Sys2Proof.Machine
end

section
/-! What a scan completion does: the record and its check at every interval position, the send deadline at
19, the window close at 31. -/

namespace Sys2Proof.Machine

open Sys2Proof

variable {s t : State}

/-! ## The check of a scan -/

theorem checkPasses_eq (index : BitVec 6) (c : Code) :
    checkPasses index c =
      if index.toNat % 2 = 0 then decide (29163 ≤ c.toInt ∧ c.toInt ≤ 29819)
      else decide (-29819 ≤ c.toInt ∧ c.toInt ≤ -29163) := by
  simp [checkPasses]

/-- The flag of R6 is set at the two codes at the ends of the range. -/
theorem overRangeFlag_eq : overRangeFlag = fun c => decide (c = 0x7FFF#16) || decide (c = 0x8000#16) := by
  funext c
  have htop : c.toInt = 32767 ↔ c = 0x7FFF#16 := by rw [← BitVec.toInt_inj]; rfl
  have hbottom : c.toInt = -32768 ↔ c = 0x8000#16 := by rw [← BitVec.toInt_inj]; rfl
  simp only [overRangeFlag, htop, hbottom]

/-! ## The front-end fault flag -/

theorem Acquisition.checked_true_passStreak (a : Acquisition) :
    (a.checked true).passStreak = min 64 (a.passStreak + 1) := rfl

theorem Acquisition.checked_true_faulty (a : Acquisition) :
    (a.checked true).faulty = if 64 ≤ a.passStreak + 1 then false else a.faulty := by
  simp [Acquisition.checked, bump]

/-- Passes never set the flag. -/
theorem Acquisition.passes_of_clear (n : Nat) (a : Acquisition) (h : a.faulty = false) :
    ((List.replicate n true).foldl Acquisition.checked a).faulty = false := by
  induction n generalizing a with
  | zero => exact h
  | succ n ih => exact ih _ (by simp [a.checked_true_faulty, h])

/-- Passes that do not bring the streak to 64 leave the flag (R8). -/
theorem Acquisition.passes_short (n : Nat) (a : Acquisition) (h : a.passStreak + n < 64) :
    ((List.replicate n true).foldl Acquisition.checked a).faulty = a.faulty := by
  induction n generalizing a with
  | zero => rfl
  | succ n ih =>
    have hstreak := a.checked_true_passStreak
    refine (ih (a.checked true) (by omega)).trans ?_
    rw [a.checked_true_faulty, if_neg (by omega)]

/-- Passes that bring the streak to 64 clear the flag (R8). -/
theorem Acquisition.passes_long (n : Nat) (a : Acquisition) (hn : n ≠ 0) (h : 64 ≤ a.passStreak + n) :
    ((List.replicate n true).foldl Acquisition.checked a).faulty = false := by
  induction n generalizing a with
  | zero => exact absurd rfl hn
  | succ n ih =>
    by_cases q : 64 ≤ a.passStreak + 1
    · exact passes_of_clear n _ (by rw [a.checked_true_faulty, if_pos q])
    · have hstreak := a.checked_true_passStreak
      exact ih (a.checked true) (by omega) (by omega)

/-- The third failure in a row sets the flag (R8). -/
theorem Acquisition.failures (a : Acquisition) :
    (((a.checked false).checked false).checked false).faulty = true := by
  simp [Acquisition.checked, bump]

/-- Settles O15, by the length of the row of passes. -/
theorem frontEndFlagStreaks : Obligations.FrontEndFlagStreaks := by
  intro a checks
  refine ⟨?_, ?_, fun n hn => ?_⟩ <;> simp only [List.foldl_append, List.foldl_cons, List.foldl_nil]
  · exact Acquisition.failures _
  · exact Acquisition.passes_long 64 _ (by decide) (by omega)
  · exact Acquisition.passes_short n _ (by simpa [Acquisition.checked] using hn)

/-! ## The next state of a scan completion -/

/-- The first bank of a kind, told by the order A, B, C. -/
theorem SampleStore.first_eq_some {st : SampleStore} {p : BankState → Bool} {j : BankId}
    (hj : p (st.get j).state = true)
    (h : ∀ m, p (st.get m).state = true → m = j ∨ j = .a ∨ (j = .b ∧ m = .c)) :
    st.first p = some j := by
  have ha := h .a
  have hb := h .b
  cases j <;> simp_all [SampleStore.first, SampleStore.get]

section Completion

variable {sc : Scan} {v : Setup} {check : Code} {quench : Bool}

theorem copying_eq_false {w : TableWork} : w.copying = false ↔ ∀ x, w ≠ .copy x := by
  cases w <;> simp [TableWork.copying]

/-- Outside the excluded orders a scan completion answers: the scan's part, then that of its position. -/
theorem scanCompletion_eq (hs : s.acq.scan = some sc) (hv : s.station.setup = some v)
    (h : intervalPosition sc.index = 31 → s.engine.run = none ∧ ∀ w, s.peers.work ≠ .copy w) :
    exec (.scanCompletion check quench) s
      = .next ((s.recordScan sc check).afterScan v sc.index quench) := by
  simp only [exec, execScanCompletion, hs, hv]
  by_cases hp : intervalPosition sc.index = 31
  · obtain ⟨hrun, hcopy⟩ := h hp
    simp [hrun, copying_eq_false.mpr hcopy]
  · simp [hp]

@[simp] theorem State.afterScan_acq (s : State) (v : Setup) (x : BitVec 6) (q : Bool) :
    (s.afterScan v x q).acq = s.acq := by
  obtain ⟨-, e⟩ | ⟨-, e⟩ | ⟨-, -, e⟩ := afterScan_cases s v x q <;> rw [e]
  rfl

theorem State.afterScan_store (s : State) (v : Setup) (x : BitVec 6) (q : Bool) :
    (s.afterScan v x q).store
      = if intervalPosition x = 31 then s.store.rotate s.acq.closeNumber else s.store := by
  obtain ⟨hp, e⟩ | ⟨hp, e⟩ | ⟨-, hp, e⟩ := afterScan_cases s v x q <;> rw [e]
  · rw [if_neg (by omega)]
  · rw [if_pos hp]; rfl
  · rw [if_neg hp]

theorem State.afterScan_eq_close (s : State) (v : Setup) {x : BitVec 6} (q : Bool)
    (hp : intervalPosition x = 31) : s.afterScan v x q = s.windowClose v q := by
  simp [State.afterScan, hp]

/-- A rotation moves no record. -/
theorem SampleStore.rotate_records (st : SampleStore) (k : Num) (j : BankId) :
    ((st.rotate k).get j).records = (st.get j).records := by
  have hready : ((st.makeReady k).get j).records = (st.get j).records := by
    unfold SampleStore.makeReady
    cases st.first BankState.isFilling with
    | none => rfl
    | some i => by_cases q : j = i <;> simp [q]
  rw [SampleStore.rotate, SampleStore.get_nextFill, ← hready]
  split <;> rfl

/-- A bank that is not FILLING stands at a record. -/
theorem SampleStore.get_write_of_ne {st : SampleStore} {j : BankId} (h : (st.get j).state ≠ .filling)
    (r : ScanRecord) : (st.write r).get j = st.get j := by
  unfold SampleStore.write
  cases hf : st.first BankState.isFilling with
  | none => rfl
  | some i =>
    have hi := (BankState.isFilling_iff _).mp (SampleStore.first_some hf)
    simp [show j ≠ i from fun e => h (e ▸ hi)]

/-- The FILLING bank after the last record of its interval and the close (R13, R14). -/
theorem SampleStore.get_close_self {st : SampleStore} {i : BankId}
    (h : ∀ j, (st.get j).state = .filling ↔ j = i) (r : ScanRecord) (k : Num) :
    ((st.write r).rotate k).get i = { (st.get i).write r with state := .ready k } := by
  have hi : st.first BankState.isFree ≠ some i := fun hf => by
    simpa [(h i).mpr rfl, BankState.isFree] using SampleStore.first_some hf
  rw [SampleStore.get_close h, if_neg hi, if_pos rfl]

/-- Settles O14: the store is that of the record, rotated at a close, and a rotation moves no record. -/
theorem scanCompletionStoresRecord : Obligations.ScanCompletionStoresRecord := by
  intro check quench s sc i hs hsetup hfilling hlen hidle pass atEnd
  obtain ⟨v, hv⟩ := Option.isSome_iff_exists.mp hsetup
  have hpass : checkPasses sc.index check = pass := checkPasses_eq _ _
  have hrecord : scanRecord sc check = ⟨sc.index, sc.codes, pass, sc.codes.map atEnd⟩ := by
    rw [scanRecord, hpass, overRangeFlag_eq]
  have hget := SampleStore.get_write hfilling (scanRecord sc check)
  have hstore := State.afterScan_store (s.recordScan sc check) v sc.index quench
  have hrecords : ∀ j, (((s.recordScan sc check).afterScan v sc.index quench).store.get j).records
      = ((s.store.write (scanRecord sc check)).get j).records := fun j => by
    rw [hstore]
    split
    · exact SampleStore.rotate_records _ _ _
    · rfl
  refine ⟨_, scanCompletion_eq hs hv hidle, ?_, ?_, ?_, fun n hn => ?_, fun j hj => ?_, fun hp => ?_,
    fun hp hp' => ?_⟩
  · rw [State.afterScan_acq, State.recordScan_acq, Acquisition.complete_fields, hpass]
  · rw [hstore]
    split
    · rw [State.recordScan_store, SampleStore.get_close_self hfilling, Bank.write_fill]
    · rw [State.recordScan_store, hget, if_pos rfl, Bank.write_fill]
  · rw [hrecords, hget, if_pos rfl, Bank.write_records _ _ hlen, if_pos rfl, hrecord]
  · rw [hrecords, hget, if_pos rfl, Bank.write_records _ _ hlen, if_neg hn]
  · rw [hrecords, hget, if_neg hj]
  · rw [hstore, if_neg (show intervalPosition sc.index ≠ 31 from hp)]
    refine ⟨?_, fun j hj => ?_⟩
    · rw [State.recordScan_store, SampleStore.write_state, (hfilling i).mpr rfl]
    · rw [State.recordScan_store, hget, if_neg hj]
  · obtain ⟨h, -⟩ | ⟨h, -⟩ | ⟨-, -, e⟩ := afterScan_cases (s.recordScan sc check) v sc.index quench
    · exact absurd h hp
    · exact absurd h hp'
    · rw [e]; rfl

/-- Settles O16: at position 19 the line takes its deadline, and the rest is that of every scan completion. -/
theorem sendDeadline : Obligations.SendDeadline := by
  intro check quench s sc hs hsetup hp
  obtain ⟨v, hv⟩ := Option.isSome_iff_exists.mp hsetup
  have hp19 : intervalPosition sc.index = 19 := hp
  have hnext := scanCompletion_eq (check := check) (quench := quench) hs hv (by omega)
  have hafter : (s.recordScan sc check).afterScan v sc.index quench
      = { s.recordScan sc check with line := s.line.deadline } := by simp [State.afterScan, hp19]
  rw [hafter] at hnext
  refine ⟨_, hnext, rfl, ?_, fun j => ⟨SampleStore.write_state _ _ j, fun hj =>
    SampleStore.get_write_of_ne hj _⟩, ?_⟩
  · rw [State.recordScan_acq, Acquisition.complete_fields, hp]
    rfl
  · change s.line.deadline = _
    split <;> rename_i hc <;> simp [LineController.deadline, hc, LineController.drop, bump]

/-- Settles O17: at position 31 the blocks outside the store, the engine and the streamer, one by one. -/
theorem windowCloseEffect : Obligations.WindowCloseEffect := by
  intro check quench s sc v hs hv hp hrun hcopy k kept pass
  have hpass : checkPasses sc.index check = pass := checkPasses_eq _ _
  have hk : (s.acq.complete sc check).closeNumber = k := by
    rw [Acquisition.complete_closeNumber, if_pos (show intervalPosition sc.index = 31 from hp)]
  have hnext := scanCompletion_eq (check := check) (quench := quench) hs hv fun _ => ⟨hrun, hcopy⟩
  rw [State.afterScan_eq_close _ _ _ hp] at hnext
  refine ⟨_, hnext, rfl, ?_, rfl, rfl, ?_, ?_⟩
  · rw [State.windowClose_acq, State.recordScan_acq, Acquisition.complete_fields, hpass, if_pos hp]
  · rw [State.windowClose_peers, State.recordScan_acq, hk]
    rfl
  · rw [State.windowClose_line]
    change abandonWork s.peers.work s.line = _
    cases s.peers.work with
    | idle | copy => rfl
    | merge i => cases i <;> rfl

/-- Settles O18: the bank of the interval, the FREE bank that begins, and the run, from the states before. -/
theorem closeRotatesBanks : Obligations.CloseRotatesBanks := by
  intro check quench s sc i hs hsetup hp hrun hcopy hfilling k
  obtain ⟨v, hv⟩ := Option.isSome_iff_exists.mp hsetup
  have hk : (s.acq.complete sc check).closeNumber = k := by
    rw [Acquisition.complete_closeNumber, if_pos (show intervalPosition sc.index = 31 from hp)]
  have hnext := scanCompletion_eq (check := check) (quench := quench) hs hv fun _ => ⟨hrun, hcopy⟩
  rw [State.afterScan_eq_close _ _ _ hp] at hnext
  have hself := SampleStore.get_close_self hfilling (scanRecord sc check) k
  refine ⟨_, hnext, ?_⟩
  simp only [State.windowClose_store, State.windowClose_engine, State.recordScan_acq,
    State.recordScan_store, State.recordScan_engine, State.recordScan_station, hk, hself,
    SampleStore.window_write hfilling]
  refine ⟨trivial, Bank.write_fill _ _, fun j hj hfirst => ?_, fun j n hj huniq => ?_, fun hnone => ?_⟩
  · have hfree : s.store.first BankState.isFree = some j :=
      SampleStore.first_eq_some ((BankState.isFree_iff _).mpr hj)
        fun m hm => hfirst m ((BankState.isFree_iff _).mp hm)
    simp only [SampleStore.get_close hfilling, hfree, if_true]
    refine ⟨rfl, rfl, fun m hmi hmj => ?_⟩
    rw [if_neg (by simpa using Ne.symm hmj), if_neg hmi]
  · have hready : s.store.first BankState.isReady = some j :=
      SampleStore.first_unique ((BankState.isReady_iff _).mpr ⟨n, hj⟩) fun m hm => by
        obtain ⟨n', hn'⟩ := (BankState.isReady_iff _).mp hm
        exact huniq m n' hn'
    rw [hready]
    rfl
  · cases hready : s.store.first BankState.isReady with
    | none => rfl
    | some j =>
      obtain ⟨n, hn⟩ := (BankState.isReady_iff _).mp (SampleStore.first_some hready)
      exact absurd hn (hnone j n)

end Completion

end Sys2Proof.Machine
end

section
/-! The five stops, the sample-timer expiry, and the state after reset. -/

namespace Sys2Proof.Machine

open Sys2Proof

variable {s t : State}

/-! ## Stops -/

/-- An expiry stops the model during a scan (R3). -/
theorem sampleTimerExpiry_fault {codes : Channels Code} {f : Fault} :
    exec (.sampleTimerExpiry codes) s = .fault f
      ↔ f = .expiryDuringScan ∧ s.acq.running = true ∧ s.acq.scan.isSome = true := by
  simp only [exec, execSampleTimerExpiry]
  cases s.acq.running <;> cases s.acq.scan <;> simp [eq_comm]

/-- A window close stops the model during a run, and during the copy of the close before (R35, R101). -/
theorem scanCompletion_fault {check : Code} {quench : Bool} {f : Fault} :
    exec (.scanCompletion check quench) s = .fault f
      ↔ f = .closeDuringRun ∧ (∃ sc, s.acq.scan = some sc ∧ sc.index.toNat % 32 = 31)
          ∧ s.station.setup.isSome = true ∧ s.engine.run.isSome = true
        ∨ f = .closeDuringCopy ∧ (∃ sc, s.acq.scan = some sc ∧ sc.index.toNat % 32 = 31)
          ∧ s.station.setup.isSome = true ∧ s.engine.run = none ∧ s.peers.work.copying = true := by
  simp only [exec, execScanCompletion]
  cases s.acq.scan with
  | none => simp
  | some sc =>
    cases s.station.setup with
    | none => simp
    | some v =>
      by_cases hp : intervalPosition sc.index = 31
      · have hp' : sc.index.toNat % 32 = 31 := hp
        cases s.engine.run <;> cases s.peers.work.copying <;> simp [hp, hp', eq_comm]
      · have hp' : sc.index.toNat % 32 ≠ 31 := hp
        simp [hp, hp']

/-- A run completion stops the model during the copy of its close, and with a frame in the slot (R37, R114). -/
theorem runCompletion_fault {f : Fault} :
    exec .runCompletion s = .fault f
      ↔ f = .completionDuringCopy ∧ s.engine.run.isSome = true ∧ s.station.setup.isSome = true
          ∧ s.peers.work.copying = true
        ∨ f = .slotOccupied ∧ s.engine.run.isSome = true ∧ s.station.setup.isSome = true
          ∧ s.peers.work.copying = false ∧ s.station.state.live = true ∧ s.line.slot.isSome = true := by
  simp only [exec, execRunCompletion]
  cases s.engine.run with
  | none => simp
  | some r =>
    cases s.station.setup with
    | none => simp
    | some v =>
      cases s.peers.work.copying with
      | true => simp; exact eq_comm
      | false =>
        cases s.station.state.live with
        | true => cases s.line.slot.isSome <;> simp; exact eq_comm
        | false => by_cases hf : s.station.state = .fault <;> simp [hf]

/-- The three commands that can stop the model. -/
def canStop : Instr → Bool
  | .sampleTimerExpiry _ | .scanCompletion _ _ | .runCompletion => true
  | _ => false

theorem copying_eq_true {w : TableWork} : w.copying = true ↔ ∃ x, w = .copy x := by
  cases w <;> simp [TableWork.copying]

/-- Every other command answers a next state in every state. -/
theorem exec_next_of_not_canStop {c : Instr} (h : canStop c = false) (s : State) :
    ∃ t, exec c s = .next t := by
  cases c with
  | sampleTimerExpiry | scanCompletion | runCompletion => cases h
  | _ => exact ⟨_, rfl⟩

theorem exec_ne_refused (c : Instr) (s : State) (r : Refusal) : exec c s ≠ .refused r := by
  cases hc : canStop c with
  | false =>
    obtain ⟨t, ht⟩ := exec_next_of_not_canStop hc s
    simp [ht]
  | true =>
    cases c with
    | sampleTimerExpiry codes =>
      simp only [exec, execSampleTimerExpiry]
      (repeat' split) <;> nofun
    | scanCompletion check quench =>
      simp only [exec, execScanCompletion]
      (repeat' split) <;> nofun
    | runCompletion =>
      simp only [exec, execRunCompletion]
      (repeat' split) <;> nofun
    | _ => cases hc

/-- Settles O2: three commands can stop, each under its own conditions. -/
theorem stopsOnlyOnExcludedOrders : Obligations.StopsOnlyOnExcludedOrders := by
  refine fun c s => ⟨exec_ne_refused c s, fun f => ?_⟩
  cases hc : canStop c with
  | false =>
    obtain ⟨t, ht⟩ := exec_next_of_not_canStop hc s
    rw [ht]
    cases c with
    | sampleTimerExpiry | scanCompletion | runCompletion => cases hc
    | _ => simp
  | true =>
    cases c with
    | sampleTimerExpiry codes => simp [sampleTimerExpiry_fault]
    | scanCompletion check quench =>
      simp [scanCompletion_fault, copying_eq_true]
    | runCompletion =>
      simp [runCompletion_fault, copying_eq_true, copying_eq_false]
    | _ => cases hc

/-! ## The sample-timer expiry -/

theorem modeCode_eq (p : Play) :
    modeCode p = match p with
      | .idle => 0 | .ramping _ => 1 | .playing _ => 2 | .holding _ => 3 | .fading _ => 4 := by
  cases p <;> rfl

theorem enableMark_eq (p : Play) : enableMark p = decide (p ≠ .idle) := by
  cases p <;> simp [enableMark]

/-- Settles O13: the streamer is stopped exactly where silence is declared. -/
theorem sampleTimerExpiryEffect : Obligations.SampleTimerExpiryEffect := by
  intro codes s hr hs values silent declared mode enable
  have hmode : modeCode s.streamer.play = mode := modeCode_eq _
  have henable : enableMark s.streamer.play = enable := enableMark_eq _
  have hnext : exec (.sampleTimerExpiry codes) s = .next (s.expire codes) := by
    simp [exec, execSampleTimerExpiry, hr, hs]
  have hdeclares : s.link.declares = declared := rfl
  rw [hnext, next_inj, ← hmode, ← henable]
  cases hd : declared with
  | false => rw [State.expire_eq s codes (hdeclares.trans hd), ModuleLink.expire, hdeclares, hd]; rfl
  | true => rw [State.expire_declared s codes (hdeclares.trans hd), ModuleLink.expire, hdeclares, hd]; rfl

/-! ## The state after reset -/

/-- Settles O12: nothing runs after reset, and every count is zero. -/
theorem invariantsAtReset : Obligations.InvariantsAtReset := by
  have h : Resets State.reset .powerOn State.reset := .powerOn
  have hslot : ∀ i, State.reset.plan.slot i = .empty := fun i => by fin_cases i <;> rfl
  refine ⟨resets_restsInOff h, resets_runsOnlyLive h, resets_setupSound h, resets_announceSound h, ?_, ?_,
    resets_storeLaw h, ?_, nofun, ?_, ?_, ?_, nofun, resets_receiveSound h, ?_, ?_, ?_, ?_⟩
  · simp [CountersBounded, State.reset, LineController.reset, Streamer.reset]
  · simp [StreaksBounded, State.reset, Acquisition.reset, Synchronizer.reset, CrossCheck.reset,
      Correction.reset, PeerTable.reset, Station.reset]
  · exact ⟨fun _ => rfl, nofun, nofun⟩
  · exact ⟨fun _ => rfl, nofun, Nat.zero_le _⟩
  · exact ⟨List.Pairwise.nil, nofun, fun _ => rfl⟩
  · exact ⟨⟨fun _ => rfl, fun _ => rfl⟩, fun hc => absurd rfl hc, nofun⟩
  · exact ⟨fun i => by rw [hslot]; trivial, nofun, fun hp => absurd rfl hp⟩
  · exact ⟨fun i p hp => by simp [hslot] at hp, nofun, nofun⟩
  · exact fun _ _ => ⟨rfl, rfl, rfl, rfl, rfl⟩
  · exact ⟨Nat.zero_le _, by decide, nofun⟩

end Sys2Proof.Machine
end

section
/-! The status counters and the streaks: what each kind of command does to them. -/

namespace Sys2Proof.Machine

open Sys2Proof

variable {s t : State} {l m : LineController}

/-! ## Status counters -/

/-- A counter stands or is raised by one, held at 255 (R128). -/
def CountStep (a b : Nat) : Prop := b = a ∨ b = bump 255 a

theorem CountStep.rises {a b : Nat} (h : CountStep a b) (ha : a ≤ 255) : b ≤ 255 ∧ a ≤ b ∧ b ≤ a + 1 := by
  unfold CountStep bump at h
  omega

/-- The three counters of the line controller each stand or are raised by one. -/
def LineCounts (l m : LineController) : Prop :=
  CountStep l.badFrames m.badFrames ∧ CountStep l.sendMissed m.sendMissed
    ∧ CountStep l.rxOverruns m.rxOverruns

theorem lineCounts_of_eq (hb : m.badFrames = l.badFrames) (hs : m.sendMissed = l.sendMissed)
    (hr : m.rxOverruns = l.rxOverruns) : LineCounts l m := ⟨.inl hb, .inl hs, .inl hr⟩

/-- The transmit side counts dropped frames and nothing else. -/
def CountsDrop (l m : LineController) : Prop :=
  m.badFrames = l.badFrames ∧ CountStep l.sendMissed m.sendMissed ∧ m.rxOverruns = l.rxOverruns

theorem CountsDrop.lineCounts (h : CountsDrop l m) : LineCounts l m := ⟨.inl h.1, h.2.1, .inl h.2.2⟩

theorem countsDrop_checkFailed (l : LineController) : CountsDrop l l.checkFailed := by
  obtain ⟨-, e⟩ | ⟨-, e⟩ := l.checkFailed_cases <;> rw [e]
  · exact ⟨rfl, .inr rfl, rfl⟩
  · exact ⟨rfl, .inl rfl, rfl⟩

theorem countsDrop_collide (l : LineController) : CountsDrop l l.collide := by
  obtain ⟨-, e⟩ | ⟨-, -, e⟩ := l.collide_cases <;> rw [e]
  · exact ⟨rfl, .inr rfl, rfl⟩
  · exact ⟨rfl, .inl rfl, rfl⟩

theorem countsDrop_deadline (l : LineController) : CountsDrop l l.deadline := by
  obtain ⟨-, e⟩ | ⟨-, e⟩ | ⟨-, e⟩ := l.deadline_cases <;> rw [e]
  · exact ⟨rfl, .inl rfl, rfl⟩
  · exact ⟨rfl, .inr rfl, rfl⟩
  · exact ⟨rfl, .inl rfl, rfl⟩

theorem countsDrop_goBusy (l : LineController) : CountsDrop l l.goBusy := by
  obtain ⟨-, -, e⟩ | ⟨-, e⟩ := l.goBusy_cases <;> rw [e]
  · exact countsDrop_checkFailed { l with busy := true }
  · exact ⟨rfl, .inl rfl, rfl⟩

/-- A frame that fails a receive check is counted (R125). -/
theorem lineCounts_failFrame (l : LineController) (i : RxId) : LineCounts l (l.failFrame i) :=
  ⟨.inr rfl, .inl (l.setBank_sendMissed i .free), .inl (l.setBank_rxOverruns i .free)⟩

theorem LineMove.counts (h : LineMove l m) : LineCounts l m := by
  cases h with
  | check | send => exact lineCounts_of_eq rfl rfl rfl
  | busy => exact (countsDrop_goBusy l).lineCounts
  | idle =>
    obtain ⟨-, e⟩ | ⟨-, i, -, e⟩ | ⟨-, -, e⟩ := l.goIdle_cases <;> rw [e]
    · exact lineCounts_of_eq rfl rfl rfl
    · exact lineCounts_failFrame l i
    · exact lineCounts_of_eq rfl rfl rfl
  | collide => exact (countsDrop_collide l).lineCounts
  | delimiter =>
    obtain ⟨hbad, hmissed, hover⟩ := countsDrop_goBusy l
    obtain ⟨i, -, e⟩ | ⟨-, e⟩ := l.goBusy.delimiter_cases <;> rw [e]
    · exact ⟨.inl (by simpa using hbad), by simpa using hmissed, .inl (by simpa using hover)⟩
    · exact ⟨.inl hbad, hmissed, .inr (congrArg (bump 255) hover)⟩
  | length i len =>
    obtain ⟨-, e⟩ | ⟨-, e⟩ := l.lengthChecked_cases i len <;> rw [e]
    · exact lineCounts_of_eq rfl rfl rfl
    · exact lineCounts_failFrame l i

theorem lineCounts_received (l : LineController) (i : RxId) (g : BitVec 4) (body : Vector Byte 33)
    (crc : BitVec 16) (stamp : Num) : LineCounts l (l.received i g body crc stamp) := by
  obtain ⟨-, -, e⟩ | ⟨-, -, e⟩ | ⟨-, e⟩ := l.received_cases i g body crc stamp <;> rw [e]
  · cases i <;> exact lineCounts_of_eq rfl rfl rfl
  · cases i <;> exact lineCounts_of_eq rfl rfl rfl
  · exact lineCounts_failFrame l i

/-- The start of a merge counts nothing. -/
theorem lineCounts_startMerge {l : LineController} (h : LineCounts l s.line) :
    LineCounts l s.startMerge.line := by
  obtain ⟨i, b, e⟩ := s.startMerge_line
  simpa [LineCounts, e] using h

/-- A boundary counts at most one underrun (R138). -/
theorem countStep_boundary (n : Num) (r : PlanRing) (x : Streamer) :
    CountStep x.underruns (boundary n r x).2.underruns := by
  obtain ⟨i, p, -, -, e⟩ | ⟨i, p, -, -, -, e⟩ | ⟨i, p, -, -, -, e⟩ | ⟨-, -, e⟩ | ⟨-, -, e⟩ :=
    boundary_cases n r x <;> rw [e]
  case inr.inr.inr.inl =>
    cases h : x.play.underrunsNext
    · exact .inl (by simp)
    · exact .inr (by simp)
  all_goals exact .inl rfl

/-- What an act does to the four status counters. -/
theorem Acts.counts (a : Acts s t) :
    LineCounts s.line t.line ∧ CountStep s.streamer.underruns t.streamer.underruns := by
  have hsame : LineCounts s.line s.line := lineCounts_of_eq rfl rfl rfl
  cases a with
  | nothing | off | silence | scan | runInFault => exact ⟨hsame, .inl rfl⟩
  | listen | badImage => exact ⟨lineCounts_of_eq rfl rfl rfl, .inl rfl⟩
  | expiry codes =>
    refine ⟨by rwa [State.expire_line], .inl ?_⟩
    cases h : s.link.declares
    · rw [State.expire_eq s codes h]
    · rw [State.expire_declared s codes h]; rfl
  | status word =>
    refine ⟨by rwa [State.takeStatus_line], .inl ?_⟩
    unfold State.takeStatus
    split <;> rfl
  | deadline => exact ⟨(countsDrop_deadline s.line).lineCounts, .inl rfl⟩
  | close sc v check quench =>
    obtain ⟨i, b, e⟩ := abandonWork_eq_setBank s.peers.work s.line
    exact ⟨by simpa [LineCounts, e] using hsame, countStep_boundary _ _ _⟩
  | copied => exact ⟨lineCounts_startMerge hsame, .inl (by simp)⟩
  | run | sent => exact ⟨lineCounts_of_eq rfl rfl rfl, .inl rfl⟩
  | line l _ hm => exact ⟨hm.counts, .inl rfl⟩
  | received v i body crc =>
    exact ⟨lineCounts_startMerge (lineCounts_received _ _ _ _ _ _), .inl (by simp)⟩
  | merged i =>
    exact ⟨lineCounts_startMerge (by cases i <;> exact lineCounts_of_eq rfl rfl rfl), .inl (by simp)⟩
  | conflict i => exact ⟨by cases i <;> exact lineCounts_of_eq rfl rfl rfl, .inl rfl⟩

theorem resets_countersBounded {c : Instr} (h : Resets s c t) : CountersBounded t := by
  cases h <;> simp [CountersBounded, State.reset, State.losePower, LineController.restart,
    LineController.reset, Streamer.reset]

/-! ## Streaks -/

/-- The streaks of R8 after a scan completion. -/
theorem Acquisition.complete_streaks (a : Acquisition) (sc : Scan) (check : Code) :
    (a.complete sc check).failStreak ≤ 3 ∧ (a.complete sc check).passStreak ≤ 64 := by
  rw [a.complete_fields]
  dsimp only
  constructor <;> split <;> omega

/-- The streaks of the synchronizer lie in their ranges (R26 to R29). -/
def Synchronizer.StreaksWithin (y : Synchronizer) : Prop :=
  y.lockStreak ≤ 8 ∧ y.slipStreak ≤ 2 ∧ y.dipStreak ≤ 8

theorem Synchronizer.onVoltage_streaks {y : Synchronizer} (h : y.StreaksWithin) (n : Nat) :
    (y.onVoltage n).StreaksWithin := by
  obtain ⟨hlock, hslip, hdip⟩ := h
  unfold Synchronizer.onVoltage
  cases y.lock with
  | unlocked => exact ⟨Nat.zero_le _, hslip, hdip⟩
  | acquiring =>
    dsimp only
    split
    · split
      · exact ⟨Nat.le_of_lt ‹y.lockStreak + 1 < 8›, hslip, hdip⟩
      · exact ⟨Nat.le_refl 8, Nat.zero_le _, hdip⟩
    · exact ⟨Nat.zero_le _, hslip, hdip⟩
  | locked =>
    dsimp only
    split
    · exact ⟨hlock, Nat.zero_le _, hdip⟩
    · split
      · exact ⟨hlock, Nat.le_of_lt ‹y.slipStreak + 1 < 2›, hdip⟩
      · exact ⟨Nat.zero_le _, Nat.le_refl 2, hdip⟩
  | coasting =>
    dsimp only
    split
    · exact ⟨hlock, Nat.zero_le _, Nat.zero_le _⟩
    · exact ⟨Nat.zero_le _, hslip, Nat.zero_le _⟩

theorem Synchronizer.onDip_streaks {y : Synchronizer} (h : y.StreaksWithin) : y.onDip.StreaksWithin := by
  obtain ⟨hlock, hslip, hdip⟩ := h
  unfold Synchronizer.onDip
  cases y.lock with
  | unlocked => exact ⟨hlock, hslip, hdip⟩
  | acquiring => exact ⟨Nat.zero_le _, hslip, hdip⟩
  | locked => exact ⟨hlock, Nat.zero_le _, Nat.zero_le _⟩
  | coasting =>
    dsimp only
    split
    · exact ⟨hlock, hslip, Nat.le_of_lt ‹y.dipStreak + 1 < 8›⟩
    · exact ⟨hlock, hslip, Nat.le_refl 8⟩

theorem Synchronizer.update_streaks {y : Synchronizer} (h : y.StreaksWithin) (v : Setup) (re im : Frac) :
    (y.update v re im).StreaksWithin := by
  unfold Synchronizer.update
  split
  · exact Synchronizer.onVoltage_streaks (y := y) h (phaseError re im).natAbs
  · exact Synchronizer.onDip_streaks (y := y) h

/-- The streaks of the cross-check after a verdict (R63). -/
theorem CrossCheck.update_streaks {x : CrossCheck} (h : x.outvoted ≤ 8 ∧ x.agreement ≤ 8) (d : Verdict) :
    (x.update d).outvoted ≤ 8 ∧ (x.update d).agreement ≤ 8 := by
  cases d with
  | notJudged => exact h
  | outvoted => exact ⟨bump_le _ _, Nat.zero_le _⟩
  | agreed => exact ⟨Nat.zero_le _, bump_le _ _⟩

/-- The settling count after a run completion (R69, R71). -/
theorem settleCorrection_settling {c : Correction} (h : c.settling ≤ 3) (b a : StationState) (v : Setup)
    (k : Num) (lock : Lock) (y : List CloseRecord) (w : View) :
    (settleCorrection b a (c.update v k lock y w)).settling ≤ 3 := by
  have hbump := bump_le 3 c.settling
  unfold settleCorrection Correction.update
  split
  · dsimp only
    split <;> omega
  · exact Nat.zero_le _

/-- The listen count after an evaluation (R168). -/
theorem Station.evaluate_listenCount {st : Station} (h : st.listenCount ≤ 255) (v : Setup) (lock : Lock)
    (c : Causes) : (st.evaluate v lock c).listenCount ≤ 255 := by
  have hbump := bump_le 255 st.listenCount
  unfold Station.evaluate Station.evaluateListen Station.evaluateActive Station.evaluateHold
  cases st.state <;> dsimp only <;> (repeat' split) <;> assumption

theorem pushRecord_length (y : List CloseRecord) (r : CloseRecord) : (pushRecord y r).length ≤ 4 := by
  simp [pushRecord, Config.historyDepth]

theorem resets_streaksBounded {c : Instr} (h : Resets s c t) : StreaksBounded t := by
  cases h <;> simp [StreaksBounded, State.reset, State.losePower, Acquisition.reset, Synchronizer.reset,
    Synchronizer.restart, CrossCheck.reset, Correction.reset, PeerTable.reset, Station.reset]

theorem StreaksBounded.acts (h : StreaksBounded s) (a : Acts s t) : StreaksBounded t := by
  obtain ⟨hfail, hpass, hlock, hslip, hdip, hout, hagree, hsettle, hconflict, hlisten, hhistory⟩ := h
  cases a with
  | nothing | off | silence | line | sent =>
    exact ⟨hfail, hpass, hlock, hslip, hdip, hout, hagree, hsettle, hconflict, hlisten, hhistory⟩
  | listen =>
    exact ⟨hfail, hpass, hlock, hslip, hdip, hout, hagree, hsettle, hconflict, Nat.zero_le _, hhistory⟩
  | badImage | conflict =>
    exact ⟨hfail, hpass, hlock, hslip, hdip, hout, hagree, Nat.zero_le _, hconflict, hlisten, hhistory⟩
  | expiry | status | copied | received =>
    simp [StreaksBounded, Acquisition.expire, *]
  | scan sc check | deadline sc check | close sc v check quench =>
    obtain ⟨hfail', hpass'⟩ := s.acq.complete_streaks sc check
    exact ⟨hfail', hpass', hlock, hslip, hdip, hout, hagree, hsettle, hconflict, hlisten, hhistory⟩
  | run r v =>
    obtain ⟨hlock', hslip', hdip'⟩ := Synchronizer.update_streaks ⟨hlock, hslip, hdip⟩ v
      (measureWindow (s.store.recordsOf r)).v1.re (measureWindow (s.store.recordsOf r)).v1.im
    obtain ⟨hout', hagree'⟩ := CrossCheck.update_streaks ⟨hout, hagree⟩
      (judge v.tx r.number s.history s.peers.view)
    exact ⟨hfail, hpass, hlock', hslip', hdip', hout', hagree',
      settleCorrection_settling hsettle _ _ _ _ _ _ _, (Nat.sub_le _ _).trans hconflict,
      Station.evaluate_listenCount hlisten _ _ _, pushRecord_length _ _⟩
  | runInFault r v =>
    obtain ⟨hout', hagree'⟩ := CrossCheck.update_streaks ⟨hout, hagree⟩
      (judge v.tx r.number s.history s.peers.view)
    exact ⟨hfail, hpass, hlock, hslip, hdip, hout', hagree', hsettle, hconflict, hlisten,
      pushRecord_length _ _⟩
  | merged i f es n _ _ hn =>
    have hn' : n ≤ 16 := by omega
    simp [StreaksBounded, *]

/-- Settles O49: a reset takes the counters to zero, and every other command raises each by one at most. -/
theorem countersOnlyRise : Obligations.CountersOnlyRise := by
  refine ⟨fun c s t hs h => ?_, fun s t => ?_⟩
  · obtain ⟨hbad, hmissed, hover, hunder⟩ := hs
    obtain hreset | hacts := exec_cases h
    · refine ⟨resets_countersBounded hreset, fun hp hl ha => ?_⟩
      cases hreset with
      | powerOn => exact absurd rfl hp
      | loss => exact absurd rfl hl
      | assertion => exact absurd rfl ha
    · obtain ⟨⟨kbad, kmissed, kover⟩, kunder⟩ := hacts.counts
      obtain ⟨bbad, rbad⟩ := kbad.rises hbad
      obtain ⟨bmissed, rmissed⟩ := kmissed.rises hmissed
      obtain ⟨bover, rover⟩ := kover.rises hover
      obtain ⟨bunder, runder⟩ := kunder.rises hunder
      exact ⟨⟨bbad, bmissed, bover, bunder⟩, fun _ _ _ => ⟨rbad, rmissed, rover, runder⟩⟩
  · exact kept_of_acts (fun _ _ h => h) (fun _ _ _ => resets_streaksBounded) (fun _ _ h a => h.acts a)

end Sys2Proof.Machine
end

section
/-! What a run measures of its records, and what its completion hands to the other blocks. -/

namespace Sys2Proof.Machine

open Sys2Proof

variable {s : State}

/-! ## Demand, delivered triple and marks -/

/-- A negated part is the exact negative, with -8,388,608 going to 8,388,607 (R44). -/
theorem toInt_negate (x : Frac) : (negate x).val.toInt = min 8388607 (-x.toInt) := by
  have hx := frac_range x
  simp only [negate, toInt_satFrac, clamp, fracMin, fracMax]
  omega

/-- A negation saturates at -8,388,608 only (R44). -/
theorem negate_sat (x : Frac) : (negate x).sat = true ↔ x.toInt = -8388608 := by
  have hx := frac_range x
  change decide (fracMax < -x.toInt) = true ↔ _
  rw [decide_eq_true_eq, fracMax]
  omega

/-- Settles O58: the sums of R49 and R51 are those of the model, and each mark is a disjunction over what it
stands for. -/
theorem demandDeliveredUsable : Obligations.DemandDeliveredUsable := by
  refine ⟨fun records x => ⟨rfl, rfl, rfl⟩, fun p => ⟨⟨rfl, rfl, rfl⟩, rfl, rfl, rfl⟩, fun records => ?_⟩
  refine ⟨rfl, toInt_negate _, toInt_negate _, toInt_negate _, rfl, ?_, ?_, ?_⟩
  · simp only [measureWindow, setSaturated, Bool.or_eq_true, negate_sat, or_assoc]
    rfl
  · simp [measureWindow, checkSummary]
  · simp [measureWindow, overRangeSummary]

/-! ## The handover of a run -/

/-- The clipped mark: a usable window whose raw reference measures more than L (R81, R83). -/
theorem shareStage_clipped (u : Bool) (d c : Triple) (q n : Nat) :
    (shareStage u d c q n).2 = true ↔ u = true ∧ n < measure (scaleTriple (groupCommand d c) q) := by
  cases u with
  | false => simp [shareStage]
  | true =>
    by_cases h : measure (scaleTriple (groupCommand d c) q) ≤ n
    · simp [shareStage, limitTriple, rawReference, h]
    · have hlt := Nat.lt_of_not_le h
      by_cases h0 : n = 0
      · subst h0
        simp [shareStage, limitTriple, rawReference, hlt, Nat.ne_of_gt hlt]
      · simp [shareStage, limitTriple, rawReference, h, h0, hlt]

/-- A record is unfit where no usable one is held (R68). -/
theorem unfitRecord_findRecord (y : List CloseRecord) (n : Num) :
    unfitRecord (findRecord y n) = true
      ↔ ∀ x, y.find? (fun z => decide (z.number = n)) = some x → x.usable = false := by
  unfold findRecord
  cases y.find? (fun z => decide (z.number = n)) <;> simp [unfitRecord]

/-- The five conditions that freeze the correction (R68). -/
theorem correctionFrozen_iff (k : Num) (lock : Lock) (y : List CloseRecord) (w : View) (c : Correction) :
    correctionFrozen k lock y w c = true
      ↔ w.ownCounted = false ∨ (∃ x ∈ w.records, x.counted = true ∧ x.fresh = false)
        ∨ (∀ x, y.find? (fun z => decide (z.number = k - 3)) = some x → x.usable = false)
        ∨ (∀ x, y.find? (fun z => decide (z.number = k - 1)) = some x → x.usable = false)
        ∨ lock = .coasting ∨ c.settling < 3 := by
  simp only [correctionFrozen, Bool.or_eq_true, unfitRecord_findRecord, or_assoc]
  simp [countedRecords]

/-- The limit of an image's Imax is at most 4,177,920, and its headroom code 32,640 (R80, R85). -/
theorem ownLimit_div_le {imax : Nat} (h : imax ≤ 4194304) (cap : Byte) : ownLimit imax cap / 128 ≤ 32640 := by
  have hprod : imax * cap.toNat ≤ 4194304 * 255 := Nat.mul_le_mul h (by omega)
  unfold ownLimit
  omega

theorem toNat_headroomCode (n : Nat) : (headroomCode n).toNat = n / 128 % 65536 :=
  BitVec.toNat_ofNat _ _

/-- A live station announces its state (R176). -/
theorem announce_of_live {x : StationState} (h : x.live = true) :
    x = .listen ∧ x.announce = .listen ∨ x = .active ∧ x.announce = .active
      ∨ x = .hold ∧ x.announce = .hold := by
  cases x <;> simp_all [StationState.live, StationState.announce]

/-- A run completion with the slot empty and no copy in hand answers. -/
theorem runCompletion_eq {r : Run} {v : Setup} (hr : s.engine.run = some r)
    (hv : s.station.setup = some v) (hl : s.station.state.live = true) (hslot : s.line.slot = none)
    (hcopy : ∀ w, s.peers.work ≠ .copy w) : exec .runCompletion s = .next (s.completeRun v r) := by
  simp [exec, execRunCompletion, hr, hv, hl, hslot, copying_eq_false.mpr hcopy]

/-- Settles O57: what the seven steps of R39 hand over, and the fields of the frame they build. -/
theorem runCompletionHandover : Obligations.RunCompletionHandover := by
  intro s r v hr hv hl hslot hcopy m fresh l c raw unfit
  refine ⟨_, shareFrame (frameFields v s (handover v r s)), frameFields v s (handover v r s),
    runCompletion_eq hr hv hl hslot hcopy, rfl, rfl, ?_, fun j hj => ?_, rfl, ?_, fun hi => ?_, rfl, rfl, rfl,
    rfl, rfl, rfl, rfl, rfl, rfl, ?_, rfl, rfl, rfl, rfl, rfl, rfl, rfl, ?_, ?_, rfl⟩
  · exact (SampleStore.get_set _ _ _ _).trans (if_pos rfl)
  · exact (SampleStore.get_set _ _ _ _).trans (if_neg hj)
  · exact toNat_headroomCode l
  · exact ((toNat_headroomCode l).trans_le (Nat.mod_le _ _)).trans (ownLimit_div_le hi _)
  · exact announce_of_live (State.completeRun_live v r hl)
  · exact shareStage_clipped _ _ _ _ _
  · exact correctionFrozen_iff _ _ _ _ _

end Sys2Proof.Machine
end

section
/-! The synchronizer: the trim and the period of an update and their bounds, and the lock states. -/

namespace Sys2Proof.Machine

open Sys2Proof

variable {s t : State} {y : Synchronizer}

/-! ## The bounds of the trim and of the period -/

/-- A trim within ±F_lim of the frequency code it was formed under, and 0 under none (R25, R31, R33). -/
def Synchronizer.TrimSound (y : Synchronizer) : Prop :=
  (y.trimFreq = none → y.trim = 0)
    ∧ ∀ f, y.trimFreq = some f → -trimLimit f ≤ y.trim ∧ y.trim ≤ trimLimit f

/-- A number of ticks within P_nom ± (F_lim + 64) (R25). -/
def PeriodWithin (f : Freq) (p : Nat) : Prop :=
  nominalPeriod f - (trimLimit f + 64) ≤ (p : Int) ∧ (p : Int) ≤ nominalPeriod f + (trimLimit f + 64)

theorem syncSound_iff :
    SyncSound s ↔ s.sync.TrimSound ∧ (s.station.state.live = true →
      ∃ v, s.station.setup = some v ∧ s.sync.trimFreq = some v.freq
        ∧ PeriodWithin v.freq s.sync.period ∧ PeriodWithin v.freq s.acq.load) := by
  simp only [SyncSound, Synchronizer.TrimSound, PeriodWithin, and_assoc]

theorem SyncSound.live (h : SyncSound s) {v : Setup} (hl : s.station.state.live = true)
    (hv : s.station.setup = some v) :
    s.sync.trimFreq = some v.freq ∧ (-trimLimit v.freq ≤ s.sync.trim ∧ s.sync.trim ≤ trimLimit v.freq)
      ∧ PeriodWithin v.freq s.sync.period ∧ PeriodWithin v.freq s.acq.load := by
  obtain ⟨⟨-, htrim⟩, hlive⟩ := syncSound_iff.mp h
  obtain ⟨w, hw, hfreq, hperiods⟩ := hlive hl
  obtain rfl : w = v := Option.some.inj (hw.symm.trans hv)
  exact ⟨hfreq, htrim _ hfreq, hperiods⟩

/-- A trim within its limit and a phase term within ±64 give a period within its bounds (R24, R25). -/
theorem periodWithin_periodOf {f : Freq} {trim term : Int} (hl : -trimLimit f ≤ trim)
    (hh : trim ≤ trimLimit f) (tl : -64 ≤ term) (th : term ≤ 64) :
    PeriodWithin f (periodOf f trim term) := by
  rw [PeriodWithin, periodOf_eq hl th]
  omega

theorem newTrim_within (f : Freq) (trim ε : Int) :
    -trimLimit f ≤ newTrim f trim ε ∧ newTrim f trim ε ≤ trimLimit f :=
  ⟨le_clamp, clamp_le (by have := trimLimit_pos f; omega)⟩

theorem phaseTerm_within (ε : Int) : -64 ≤ phaseTerm ε ∧ phaseTerm ε ≤ 64 :=
  ⟨le_clamp, clamp_le (by decide)⟩

/-- An update forms its period from a trim within the limit and a phase term within ±64, 0 in a dip run
(R23 to R25). -/
theorem Synchronizer.update_period {v : Setup} (re im : Frac) (hl : -trimLimit v.freq ≤ y.trim)
    (hh : y.trim ≤ trimLimit v.freq) :
    (-trimLimit v.freq ≤ (y.update v re im).trim ∧ (y.update v re im).trim ≤ trimLimit v.freq)
      ∧ ∃ term, (-64 ≤ term ∧ term ≤ 64)
        ∧ (y.update v re im).period = periodOf v.freq (y.update v re im).trim term := by
  obtain ⟨-, htrim, hperiod, -⟩ | ⟨-, htrim, hperiod, -⟩ := y.update_cases v re im <;>
    rw [hperiod, htrim]
  · exact ⟨newTrim_within _ _ _, _, phaseTerm_within _, rfl⟩
  · exact ⟨⟨hl, hh⟩, 0, by omega, rfl⟩

/-- SETUP exit keeps a trim of the same frequency code, which lies within its limit, or begins at 0 (R33). -/
theorem Synchronizer.TrimSound.start (h : y.TrimSound) (f : Freq) :
    (y.start f).TrimSound ∧ PeriodWithin f (y.start f).period := by
  have hpos := trimLimit_pos f
  have hwithin : -trimLimit f ≤ (y.start f).trim ∧ (y.start f).trim ≤ trimLimit f := by
    unfold Synchronizer.start
    by_cases hf : y.trimFreq = some f
    · simpa [hf] using h.2 f hf
    · simp only [hf, if_false]
      omega
  refine ⟨⟨nofun, fun g hg => ?_⟩, periodWithin_periodOf hwithin.1 hwithin.2 (by omega) (by omega)⟩
  obtain rfl : f = g := Option.some.inj hg
  exact hwithin

@[simp] theorem Acquisition.complete_load (a : Acquisition) (sc : Scan) (check : Code) :
    (a.complete sc check).load = a.load := by rw [a.complete_fields]

/-! ## Every step keeps the bounds -/

/-- A power-on and a loss of supply begin at trim 0; a reset-line assertion keeps the trim and its frequency
(R32). -/
theorem SyncSound.resets {c : Instr} (h : SyncSound s) (hr : Resets s c t) : SyncSound t := by
  refine syncSound_iff.mpr ⟨?_, fun hl => by simp [(resets_off hr).1, StationState.live] at hl⟩
  cases hr with
  | powerOn | loss => exact ⟨fun _ => rfl, nofun⟩
  | assertion => exact (syncSound_iff.mp h).1

/-- A run completion updates the trim under the frequency code in use (R23, R24). -/
theorem SyncSound.completeRun (h : SyncSound s) {r : Run} {v : Setup} (hv : s.station.setup = some v)
    (hl : s.station.state.live = true) : SyncSound (s.completeRun v r) := by
  obtain ⟨hfreq, ⟨hlow, hhigh⟩, -, hload⟩ := h.live hl hv
  obtain ⟨hwithin, term, ⟨tl, th⟩, hperiod⟩ := Synchronizer.update_period
    (measureWindow (s.store.recordsOf r)).v1.re (measureWindow (s.store.recordsOf r)).v1.im hlow hhigh
  have hfreq' : (s.completeRun v r).sync.trimFreq = some v.freq :=
    (Synchronizer.update_trimFreq ..).trans hfreq
  refine syncSound_iff.mpr
    ⟨⟨fun hn => by simp [hfreq'] at hn, fun f hf => ?_⟩, fun _ => ⟨v, ?_, hfreq', ?_, hload⟩⟩
  · obtain rfl : v.freq = f := Option.some.inj (hfreq'.symm.trans hf)
    exact hwithin
  · exact (Station.evaluate_setup ..).trans hv
  · change PeriodWithin v.freq (s.sync.update v _ _).period
    rw [hperiod]
    exact periodWithin_periodOf hwithin.1 hwithin.2 tl th

theorem SyncSound.acts (h : SyncSound s) (a : Acts s t) : SyncSound t := by
  have htrim := (syncSound_iff.mp h).1
  cases a with
  | nothing | silence | runInFault | line | sent => exact h
  | status | copied | received | merged => simpa [SyncSound] using h
  | scan sc check | deadline sc check | close sc v check quench =>
    simpa [SyncSound] using h
  | off p w x _ hx =>
    exact syncSound_iff.mpr ⟨htrim, fun hl => by rcases hx with rfl | rfl <;> cases hl⟩
  | badImage | conflict => exact syncSound_iff.mpr ⟨htrim, nofun⟩
  | listen p image v =>
    obtain ⟨hstart, hperiod⟩ := htrim.start v.freq
    exact syncSound_iff.mpr ⟨hstart, fun _ => ⟨v, rfl, rfl, hperiod, hperiod⟩⟩
  | expiry codes =>
    refine syncSound_iff.mpr ⟨by simpa using htrim, fun hl => ?_⟩
    obtain ⟨v, hv, hfreq, hperiod, -⟩ := (syncSound_iff.mp h).2 (by simpa using hl)
    exact ⟨v, by simpa using hv, by simpa using hfreq, by simpa using hperiod,
      by simpa [Acquisition.expire] using hperiod⟩
  | run r v _ hv _ hl => exact h.completeRun hv hl

/-- Settles O23: every kind of command keeps the bounds; only a read of the setup image, an expiry and a run
completion move what they speak of. -/
theorem syncSoundKept : Obligations.SyncSoundKept := by
  refine ⟨fun s t hs h => ?_, fun y v re im hl hh => ?_, fun s v hs hl hv => ?_⟩
  · exact kept_of_exec (P := SyncSound) (fun _ _ h => h)
      (fun c s t hs h => (exec_cases h).elim hs.resets hs.acts) hs h
  · obtain ⟨⟨hlow, hhigh⟩, term, ⟨tl, th⟩, hperiod⟩ := y.update_period re im hl hh
    refine ⟨hhigh, hlow, fun hdip => ?_, term, tl, th, by rw [hperiod, periodOf_eq hlow th]⟩
    obtain ⟨hvolt, -⟩ | ⟨-, htrim, -⟩ := y.update_cases v re im
    · omega
    · exact htrim
  · obtain ⟨-, htrim, hperiod, hload⟩ := hs.live hl hv
    cases hf : v.freq <;> simp only [hf, PeriodWithin, nominalPeriod, trimLimit] at * <;> omega

end Sys2Proof.Machine
end

section
/-! The synchronizer: the update of a run completion, and the lock states over rows of runs. -/

namespace Sys2Proof.Machine

open Sys2Proof

variable {s t : State} {y : Synchronizer} {m : Nat}

/-! ## The lock states, one transition each -/

/-- A first voltage run begins the count (R26). -/
theorem Synchronizer.onVoltage_unlocked (h : y.lock = .unlocked) :
    y.onVoltage m = { y with lock := .acquiring, lockStreak := 0 } := by
  simp [Synchronizer.onVoltage, h]

/-- An error beyond 1,311 begins the count anew (R27). -/
theorem Synchronizer.onVoltage_acquiring_far (h : y.lock = .acquiring) (hm : 1311 < m) :
    y.onVoltage m = { y with lock := .acquiring, lockStreak := 0 } := by
  simp [Synchronizer.onVoltage, h, lockThreshold, Nat.not_le.mpr hm]

/-- A run within 1,311 counts (R27). -/
theorem Synchronizer.onVoltage_acquiring_counts (h : y.lock = .acquiring) (hm : m ≤ 1311)
    (hs : y.lockStreak + 1 < 8) :
    y.onVoltage m = { y with lock := .acquiring, lockStreak := y.lockStreak + 1 } := by
  simp [Synchronizer.onVoltage, h, lockThreshold, hm, hs]

/-- The eighth run within 1,311 locks (R27). -/
theorem Synchronizer.onVoltage_acquiring_locks (h : y.lock = .acquiring) (hm : m ≤ 1311)
    (hs : ¬ y.lockStreak + 1 < 8) :
    y.onVoltage m = { y with lock := .locked, lockStreak := 8, slipStreak := 0 } := by
  simp [Synchronizer.onVoltage, h, lockThreshold, hm, hs]

/-- A run within 5,243 ends a slip (R28). -/
theorem Synchronizer.onVoltage_locked_near (h : y.lock = .locked) (hm : m ≤ 5243) :
    y.onVoltage m = { y with lock := .locked, slipStreak := 0 } := by
  simp [Synchronizer.onVoltage, h, slipThreshold, hm]

/-- A first run beyond 5,243 is a slip (R28). -/
theorem Synchronizer.onVoltage_locked_slips (h : y.lock = .locked) (hm : 5243 < m)
    (hs : y.slipStreak + 1 < 2) :
    y.onVoltage m = { y with lock := .locked, slipStreak := y.slipStreak + 1 } := by
  simp [Synchronizer.onVoltage, h, slipThreshold, Nat.not_le.mpr hm, hs]

/-- A second run in a row beyond 5,243 loses the lock (R28). -/
theorem Synchronizer.onVoltage_locked_loses (h : y.lock = .locked) (hm : 5243 < m)
    (hs : ¬ y.slipStreak + 1 < 2) :
    y.onVoltage m = { y with lock := .acquiring, slipStreak := 2, lockStreak := 0 } := by
  simp [Synchronizer.onVoltage, h, slipThreshold, Nat.not_le.mpr hm, hs]

/-- A run within 1,311 ends COASTING in LOCKED (R29). -/
theorem Synchronizer.onVoltage_coasting_near (h : y.lock = .coasting) (hm : m ≤ 1311) :
    y.onVoltage m = { y with lock := .locked, slipStreak := 0, dipStreak := 0 } := by
  simp [Synchronizer.onVoltage, h, lockThreshold, hm]

/-- A run beyond 1,311 ends COASTING in ACQUIRING (R29). -/
theorem Synchronizer.onVoltage_coasting_far (h : y.lock = .coasting) (hm : 1311 < m) :
    y.onVoltage m = { y with lock := .acquiring, lockStreak := 0, dipStreak := 0 } := by
  simp [Synchronizer.onVoltage, h, lockThreshold, Nat.not_le.mpr hm]

/-- A dip run in UNLOCKED changes nothing (R26). -/
theorem Synchronizer.onDip_unlocked (h : y.lock = .unlocked) :
    y.onDip = { y with lock := .unlocked } := by
  cases y
  cases h
  rfl

/-- A dip run gives up an acquisition (R27). -/
theorem Synchronizer.onDip_acquiring (h : y.lock = .acquiring) :
    y.onDip = { y with lock := .unlocked, lockStreak := 0 } := by simp [Synchronizer.onDip, h]

/-- A dip run in LOCKED begins COASTING (R28). -/
theorem Synchronizer.onDip_locked (h : y.lock = .locked) :
    y.onDip = { y with lock := .coasting, dipStreak := 0, slipStreak := 0 } := by
  simp [Synchronizer.onDip, h]

/-- A dip run in COASTING counts (R29). -/
theorem Synchronizer.onDip_coasting_counts (h : y.lock = .coasting) (hs : y.dipStreak + 1 < 8) :
    y.onDip = { y with lock := .coasting, dipStreak := y.dipStreak + 1 } := by
  simp [Synchronizer.onDip, h, hs]

/-- The eighth dip run in COASTING unlocks (R29). -/
theorem Synchronizer.onDip_coasting_unlocks (h : y.lock = .coasting) (hs : ¬ y.dipStreak + 1 < 8) :
    y.onDip = { y with lock := .unlocked, dipStreak := 8 } := by
  simp [Synchronizer.onDip, h, hs]

@[simp] theorem Synchronizer.onDip_trim (y : Synchronizer) : y.onDip.trim = y.trim := by
  unfold Synchronizer.onDip
  cases y.lock with
  | unlocked | acquiring | locked => rfl
  | coasting => dsimp only; split <;> rfl

/-! ## Rows of runs -/

/-- The synchronizer after a row of voltage runs with the given errors. -/
def Synchronizer.voltageRuns (y : Synchronizer) (ms : List Nat) : Synchronizer :=
  ms.foldl Synchronizer.onVoltage y

/-- Fewer runs than the count still needs do not lock (R27). -/
theorem Synchronizer.voltageRuns_acquiring {ms : List Nat} (h : y.lock = .acquiring)
    (hs : y.lockStreak + ms.length < 8) : (y.voltageRuns ms).lock = .acquiring := by
  induction ms generalizing y with
  | nil => exact h
  | cons m ms ih =>
    rw [List.length_cons] at hs
    by_cases hm : m ≤ 1311
    · have hcount := y.onVoltage_acquiring_counts h hm (by omega)
      exact ih (y := y.onVoltage m) (by rw [hcount]) (by rw [hcount]; dsimp only; omega)
    · have hfar := y.onVoltage_acquiring_far h (Nat.lt_of_not_le hm)
      exact ih (y := y.onVoltage m) (by rw [hfar]) (by rw [hfar]; dsimp only; omega)

/-- As many runs within 1,311 as the count still needs lock (R27). -/
theorem Synchronizer.voltageRuns_locks {ms : List Nat} (h : y.lock = .acquiring) (hs : y.lockStreak < 8)
    (hlen : y.lockStreak + ms.length = 8) (hms : ∀ x ∈ ms, x ≤ 1311) :
    (y.voltageRuns ms).lock = .locked := by
  induction ms generalizing y with
  | nil => rw [List.length_nil] at hlen; omega
  | cons m ms ih =>
    obtain ⟨hm, hms⟩ := List.forall_mem_cons.mp hms
    rw [List.length_cons] at hlen
    by_cases hcount : y.lockStreak + 1 < 8
    · have hnext := y.onVoltage_acquiring_counts h hm hcount
      exact ih (y := y.onVoltage m) (by rw [hnext]) (by rw [hnext]; exact hcount)
        (by rw [hnext]; dsimp only; omega) hms
    · obtain rfl : ms = [] := List.length_eq_zero_iff.mp (by omega)
      change (y.onVoltage m).lock = .locked
      rw [y.onVoltage_acquiring_locks h hm hcount]

/-- After a run that leaves ACQUIRING with an empty count, seven more do not lock and eight within 1,311 do. -/
theorem Synchronizer.voltageRuns_from_zero {ms : List Nat} (h : y.lock = .acquiring)
    (hs : y.lockStreak = 0) :
    (ms.length ≤ 7 → (y.voltageRuns ms).lock = .acquiring)
      ∧ (ms.length = 8 → (∀ x ∈ ms, x ≤ 1311) → (y.voltageRuns ms).lock = .locked) :=
  ⟨fun hlen => Synchronizer.voltageRuns_acquiring h (by omega),
    fun hlen => Synchronizer.voltageRuns_locks h (by omega) (by omega)⟩

/-- A run in LOCKED leaves it only from a slip streak (R28). -/
theorem Synchronizer.onVoltage_locked_of_no_slip (h : y.lock = .locked) (hs : y.slipStreak = 0) (m : Nat) :
    (y.onVoltage m).lock = .locked := by
  by_cases hm : m ≤ 5243
  · rw [y.onVoltage_locked_near h hm]
  · rw [y.onVoltage_locked_slips h (Nat.lt_of_not_le hm) (by omega)]

/-- Two runs in a row beyond 5,243 lose the lock (R28). -/
theorem Synchronizer.onVoltage_slip_twice {m' : Nat} (h : y.lock = .locked) (hm : 5243 < m)
    (hm' : 5243 < m') : ((y.onVoltage m).onVoltage m').lock = .acquiring := by
  by_cases hs : y.slipStreak + 1 < 2
  · have hslips := y.onVoltage_locked_slips h hm hs
    rw [Synchronizer.onVoltage_locked_loses (y := y.onVoltage m) (by rw [hslips]) hm'
      (by rw [hslips]; dsimp only; omega)]
  · have hloses := y.onVoltage_locked_loses h hm hs
    rw [Synchronizer.onVoltage_acquiring_far (y := y.onVoltage m) (by rw [hloses]) (by omega)]

theorem Synchronizer.dips_trim (y : Synchronizer) (n : Nat) :
    (Nat.repeat Synchronizer.onDip n y).trim = y.trim := by
  induction n with
  | zero => rfl
  | succ n ih => exact (Synchronizer.onDip_trim _).trans ih

/-- The first dip run from LOCKED begins COASTING, and seven more are counted (R28, R29). -/
theorem Synchronizer.dips_coasting (h : y.lock = .locked) {n : Nat} (hn : n < 8) :
    (Nat.repeat Synchronizer.onDip (n + 1) y).lock = .coasting
      ∧ (Nat.repeat Synchronizer.onDip (n + 1) y).dipStreak = n := by
  induction n with
  | zero =>
    change y.onDip.lock = .coasting ∧ y.onDip.dipStreak = 0
    rw [y.onDip_locked h]
    exact ⟨rfl, rfl⟩
  | succ n ih =>
    obtain ⟨hlock, hstreak⟩ := ih (by omega)
    rw [Nat.repeat, Synchronizer.onDip_coasting_counts hlock (by rwa [hstreak])]
    exact ⟨rfl, congrArg (· + 1) hstreak⟩

/-- The ninth dip run from LOCKED unlocks, and no further one changes that (R26, R29). -/
theorem Synchronizer.dips_unlocked (h : y.lock = .locked) (n : Nat) :
    (Nat.repeat Synchronizer.onDip (n + 9) y).lock = .unlocked := by
  induction n with
  | zero =>
    obtain ⟨hlock, hstreak⟩ := y.dips_coasting h (n := 7) (by omega)
    rw [Nat.repeat, Synchronizer.onDip_coasting_unlocks hlock (by omega)]
  | succ n ih =>
    rw [Nat.add_right_comm, Nat.repeat, Synchronizer.onDip_unlocked ih]

/-- Settles O22, by the lengths of the rows of voltage runs and the number of dip runs. -/
theorem lockAcquisitionAndCoasting : Obligations.LockAcquisitionAndCoasting := by
  intro y m m' ms after
  have hafter : ∀ x l, after (x :: l) = (y.onVoltage x).voltageRuns l := fun _ _ => rfl
  refine ⟨fun h => ⟨fun hlen => ?_, ?_⟩, fun h hm => ?_, fun h => ?_, fun h => ⟨?_, fun hs => ?_, fun hm => ?_⟩,
    fun h n => ⟨y.dips_trim n, fun h1 h8 => ?_, fun h9 => ?_, fun h1 h8 => ?_⟩⟩
  · cases ms with
    | nil => rw [show (after []).lock = .unlocked from h]; nofun
    | cons x xs =>
      rw [hafter, y.onVoltage_unlocked h, Synchronizer.voltageRuns_acquiring rfl]
      · nofun
      · rw [List.length_cons] at hlen; dsimp only; omega
  · rw [hafter, y.onVoltage_unlocked h]
    exact (Synchronizer.voltageRuns_from_zero rfl rfl).2
  · rw [hafter, hafter, y.onVoltage_acquiring_far h hm]
    exact ⟨rfl, Synchronizer.voltageRuns_from_zero rfl rfl⟩
  · rw [y.onDip_acquiring h]
    exact ⟨rfl, rfl⟩
  · exact Synchronizer.onVoltage_slip_twice h
  · exact y.onVoltage_locked_of_no_slip h hs m
  · have hnear := y.onVoltage_locked_near h hm
    have hslip : (y.onVoltage m).slipStreak = 0 := by rw [hnear]
    exact ⟨hslip, Synchronizer.onVoltage_locked_of_no_slip (by rw [hnear]) hslip m'⟩
  · obtain ⟨k, rfl⟩ := Nat.exists_eq_add_of_le' h1
    exact (y.dips_coasting h (by omega)).1
  · obtain ⟨k, rfl⟩ := Nat.exists_eq_add_of_le' h9
    exact y.dips_unlocked h k
  · obtain ⟨k, rfl⟩ := Nat.exists_eq_add_of_le' h1
    have hcoasting := (y.dips_coasting h (n := k) (by omega)).1
    split
    · rw [Synchronizer.onVoltage_coasting_near hcoasting ‹_›]
    · rw [Synchronizer.onVoltage_coasting_far hcoasting (Nat.lt_of_not_le ‹_›)]

/-! ## The update at a run completion -/

/-- The update of a voltage run (R21 to R24). -/
theorem Synchronizer.update_of_voltage {v : Setup} {re im : Frac} (h : (v.vmin : Int) ≤ re.toInt) :
    y.update v re im =
      { y.onVoltage (phaseError re im).natAbs with
        trim := newTrim v.freq y.trim (phaseError re im)
        period := periodOf v.freq (newTrim v.freq y.trim (phaseError re im))
          (phaseTerm (phaseError re im)) } := by
  simp [Synchronizer.update, voltageRun, h]

/-- The update of a dip run (R21, R24). -/
theorem Synchronizer.update_of_dip {v : Setup} {re im : Frac} (h : re.toInt < (v.vmin : Int)) :
    y.update v re im = { y.onDip with period := periodOf v.freq y.trim 0 } := by
  simp [Synchronizer.update, voltageRun, Int.not_le.mpr h]

/-- The size of the phase error (R22). -/
def errorSize (re im : Frac) : Int := min 65535 (im.toInt.natAbs * 65536 / re.toInt.toNat)

theorem divide16_eq_errorSize (re im : Frac) :
    (divide16 im.toInt.natAbs re.toInt.toNat : Int) = errorSize re im := by
  simp [divide16, errorSize]

/-- The phase error has its size and the sign of the imaginary part (R22). -/
theorem phaseError_eq (re im : Frac) :
    phaseError re im = if im.toInt < 0 then -errorSize re im else errorSize re im := by
  rw [← divide16_eq_errorSize]
  rfl

theorem natAbs_phaseError (re im : Frac) : (phaseError re im).natAbs = (errorSize re im).toNat := by
  rw [phaseError_eq, ← divide16_eq_errorSize]
  split <;> simp

theorem nominalPeriod_eq (f : Freq) :
    nominalPeriod f = match f with | .hz50 => 7680 | .hz60 => 6400 := by cases f <;> rfl

theorem trimLimit_eq (f : Freq) : trimLimit f = match f with | .hz50 => 160 | .hz60 => 133 := by
  cases f <;> rfl

/-- A completion that answers in LISTEN, ACTIVE or HOLD has taken the seven steps of R39. -/
theorem runCompletion_live {r : Run} {v : Setup} (hr : s.engine.run = some r)
    (hv : s.station.setup = some v) (hl : s.station.state.live = true)
    (h : exec .runCompletion s = .next t) : t = s.completeRun v r := by
  obtain ⟨r', v', hr', hv', -, ⟨-, -, rfl⟩ | ⟨hf, -⟩ | ⟨hn, -⟩⟩ | ⟨hn | hn, -⟩ := runCompletion_next h
  · obtain rfl : r = r' := Option.some.inj (hr.symm.trans hr')
    obtain rfl : v = v' := Option.some.inj (hv.symm.trans hv')
    rfl
  · simp [hf, StationState.live] at hl
  · simp [hn] at hl
  · simp [hr] at hn
  · simp [hv] at hn

/-- Settles O21: the update by the dip test, and in each of its two kinds by the lock state. -/
theorem synchronizerUpdate : Obligations.SynchronizerUpdate := by
  intro s t r v hr hv hl hs h v1 nom lim m ε a ls ss ds moves
  obtain ⟨-, ⟨hlow, hhigh⟩, -⟩ := hs.live hl hv
  have hsync : t.sync = s.sync.update v v1.re v1.im := by rw [runCompletion_live hr hv hl h]; rfl
  have hε : phaseError v1.re v1.im = ε := phaseError_eq _ _
  have ha : (phaseError v1.re v1.im).natAbs = a := natAbs_phaseError _ _
  have hnom : nominalPeriod v.freq = nom := nominalPeriod_eq _
  have hlim : trimLimit v.freq = lim := trimLimit_eq _
  refine ⟨by rw [hsync, Synchronizer.update_trimFreq], fun hvolt => ?_, fun hdip => ?_, fun hvolt => ?_,
    fun hdip => ?_⟩
  · have hmoves : ∀ x, s.sync.onVoltage a = x → moves x.lock x.lockStreak x.slipStreak x.dipStreak := by
      rintro x rfl
      have hupdate := hsync.trans (Synchronizer.update_of_voltage hvolt)
      rw [ha] at hupdate
      simp [moves, hupdate]
    cases hlock : s.sync.lock with
    | unlocked => exact hmoves _ (Synchronizer.onVoltage_unlocked hlock)
    | acquiring =>
      dsimp only
      split
      · exact hmoves _ (Synchronizer.onVoltage_acquiring_far hlock ‹_›)
      · have hnear : a ≤ 1311 := Nat.le_of_not_lt ‹_›
        split
        · exact hmoves _ (Synchronizer.onVoltage_acquiring_counts hlock hnear ‹_›)
        · exact hmoves _ (Synchronizer.onVoltage_acquiring_locks hlock hnear ‹_›)
    | locked =>
      dsimp only
      split
      · exact hmoves _ (Synchronizer.onVoltage_locked_near hlock ‹_›)
      · have hfar : 5243 < a := Nat.lt_of_not_le ‹_›
        split
        · exact hmoves _ (Synchronizer.onVoltage_locked_slips hlock hfar ‹_›)
        · exact hmoves _ (Synchronizer.onVoltage_locked_loses hlock hfar ‹_›)
    | coasting =>
      dsimp only
      split
      · exact hmoves _ (Synchronizer.onVoltage_coasting_near hlock ‹_›)
      · exact hmoves _ (Synchronizer.onVoltage_coasting_far hlock (Nat.lt_of_not_le ‹_›))
  · have hmoves : ∀ x, s.sync.onDip = x → moves x.lock x.lockStreak x.slipStreak x.dipStreak := by
      rintro x rfl
      simp [moves, hsync, Synchronizer.update_of_dip hdip]
    cases hlock : s.sync.lock with
    | unlocked => exact hmoves _ (Synchronizer.onDip_unlocked hlock)
    | acquiring => exact hmoves _ (Synchronizer.onDip_acquiring hlock)
    | locked => exact hmoves _ (Synchronizer.onDip_locked hlock)
    | coasting =>
      dsimp only
      split
      · exact hmoves _ (Synchronizer.onDip_coasting_counts hlock ‹_›)
      · exact hmoves _ (Synchronizer.onDip_coasting_unlocks hlock ‹_›)
  · rw [hsync, Synchronizer.update_of_voltage hvolt, hε, ← hlim, ← hnom]
    exact ⟨rfl, periodOf_eq (newTrim_within _ _ _).1 (phaseTerm_within ε).2⟩
  · rw [hsync, Synchronizer.update_of_dip hdip, ← hnom]
    exact ⟨s.sync.onDip_trim, by simpa using periodOf_eq hlow (term := 0) (by omega)⟩

end Sys2Proof.Machine
end

section
/-! The evaluation at a run completion, a run that completes in FAULT, and the two ends of a setup read. -/

namespace Sys2Proof.Machine

open Sys2Proof

variable {s t : State}

/-! ## The evaluation at a run completion -/

/-- SYNC is present in UNLOCKED and ACQUIRING (R30). -/
theorem syncCause_eq (l : Lock) : syncCause l = decide (l = .unlocked ∨ l = .acquiring) := by
  cases l <;> rfl

theorem Causes.any_eq_false {c : Causes} : c.any = false ↔ c = ⟨false, false, false, false, false⟩ := by
  cases c
  simp [Causes.any, and_assoc]

/-- In LOCKED the causes without SYNC are all the causes (R30, R168). -/
theorem Causes.anyButSync_eq_any {c : Causes} (h : c.sync = false) : c.anyButSync = c.any := by
  simp [Causes.anyButSync, Causes.any, h]

/-- LISTEN ends where the listen period is over, the synchronizer is LOCKED and no cause is present (R168). -/
theorem Station.evaluateListen_eq (st : Station) (v : Setup) {lock : Lock} {c : Causes}
    (hc : c.sync = syncCause lock) :
    st.evaluateListen v lock c =
      if v.listenPeriod ≤ min 255 (st.listenCount + 1) ∧ lock = .locked
          ∧ c = ⟨false, false, false, false, false⟩ then
        { st with
          causes := c, listenCount := min 255 (st.listenCount + 1), state := .active, announced := false }
      else { st with causes := c, listenCount := min 255 (st.listenCount + 1) } := by
  by_cases hl : lock = .locked
  · subst hl
    simp [Station.evaluateListen, bump, Causes.anyButSync_eq_any hc, Causes.any_eq_false]
  · simp [Station.evaluateListen, bump, hl]

/-- Any cause ends ACTIVE (R169). -/
theorem Station.evaluateActive_eq (st : Station) (c : Causes) :
    st.evaluateActive c =
      if c = ⟨false, false, false, false, false⟩ then { st with causes := c }
      else { st with causes := c, state := .hold, reentryCount := 0, announced := false } := by
  by_cases h : c = ⟨false, false, false, false, false⟩
  · rw [Station.evaluateActive, Causes.any_eq_false.mpr h, if_pos h]
    rfl
  · rw [Station.evaluateActive, if_pos (by simpa using mt Causes.any_eq_false.mp h), if_neg h]

/-- HOLD counts completions without a cause up to the reentry period (R170). -/
theorem Station.evaluateHold_eq (st : Station) (v : Setup) (c : Causes) :
    st.evaluateHold v c =
      if c ≠ ⟨false, false, false, false, false⟩ then { st with causes := c, reentryCount := 0 }
      else if v.reentryPeriod ≤ st.reentryCount + 1 then
        { st with causes := c, reentryCount := st.reentryCount + 1, state := .active, announced := false }
      else { st with causes := c, reentryCount := st.reentryCount + 1 } := by
  by_cases h : c = ⟨false, false, false, false, false⟩
  · rw [Station.evaluateHold, Causes.any_eq_false.mpr h, if_neg (not_not.mpr h)]
    rfl
  · rw [Station.evaluateHold, if_pos (by simpa using mt Causes.any_eq_false.mp h), if_pos h]

theorem Station.evaluate_of_listen {st : Station} (h : st.state = .listen) (v : Setup) (lock : Lock)
    (c : Causes) : st.evaluate v lock c = st.evaluateListen v lock c := by rw [Station.evaluate, h]

theorem Station.evaluate_of_active {st : Station} (h : st.state = .active) (v : Setup) (lock : Lock)
    (c : Causes) : st.evaluate v lock c = st.evaluateActive c := by rw [Station.evaluate, h]

theorem Station.evaluate_of_hold {st : Station} (h : st.state = .hold) (v : Setup) (lock : Lock)
    (c : Causes) : st.evaluate v lock c = st.evaluateHold v c := by rw [Station.evaluate, h]

/-- Settles O59: one evaluation for each of the three states, on the causes of the blocks as they stand. -/
theorem stationTransitions : Obligations.StationTransitions := by
  intro s t r v hr hv hl h notReady causes n
  have ht := runCompletion_live hr hv hl h
  have hcauses : holdCauses t.sync.lock s.link s.acq.faulty s.station.quench t.xcheck.flag = causes := by
    rw [holdCauses, syncCause_eq]
    rfl
  have hsync : causes.sync = syncCause t.sync.lock := (syncCause_eq _).symm
  have heval : t.station = s.station.evaluate v t.sync.lock causes := by rw [← hcauses, ht]; rfl
  rw [heval]
  refine ⟨fun hs => ?_, fun hs => ?_, fun hs => ?_⟩
  · exact (Station.evaluate_of_listen hs _ _ _).trans (s.station.evaluateListen_eq v hsync)
  · exact (Station.evaluate_of_active hs _ _ _).trans (s.station.evaluateActive_eq causes)
  · exact (Station.evaluate_of_hold hs _ _ _).trans (s.station.evaluateHold_eq v causes)

/-! ## A run that completes in FAULT -/

/-- Whether the cross-check judges run `k`: record `k - 1` is held and usable, no fresh record of the view is
unusable, and at least two peers are fresh and ACTIVE (R62). -/
def crossChecks (k : Num) (y : List CloseRecord) (w : View) : Bool :=
  (match findRecord y (k - 1) with | none => false | some own => own.usable)
    && (w.records.filter fun r => r.fresh).all (fun r => !r.unusable) && decide (2 ≤ (freshActive w).length)

/-- The number of fresh ACTIVE peers that disagree with record `k - 1` (R61). -/
def disagreeing (tx : Nat) (k : Num) (y : List CloseRecord) (w : View) : Nat :=
  match findRecord y (k - 1) with
  | none => 0
  | some own => ((freshActive w).filter (disagrees tx own.d)).length

/-- A judged run is outvoted where more than half of the fresh ACTIVE peers disagree (R62). -/
theorem judge_eq (tx : Nat) (k : Num) (y : List CloseRecord) (w : View) :
    judge tx k y w =
      if crossChecks k y w = false then .notJudged
      else if (freshActive w).length < 2 * disagreeing tx k y w then .outvoted
      else .agreed := by
  unfold judge crossChecks disagreeing
  cases findRecord y (k - 1) with
  | none => rfl
  | some own =>
    have hfresh : (w.records.filter fun r => r.fresh).all (fun r => !r.unusable)
        = !w.records.any fun r => r.fresh && r.unusable := by
      simp [List.all_filter, List.not_any_eq_all_not, Bool.not_and]
    cases hu : own.usable with
    | false => simp [hu]
    | true =>
      cases hany : w.records.any fun r => r.fresh && r.unusable with
      | true => simp [hfresh, hany]
      | false =>
        by_cases hlen : (freshActive w).length < 2
        · simp [hlen]
        · simp [hfresh, hany, hu, hlen, Nat.le_of_not_lt hlen]

/-- The eighth outvoted window of a streak sets the flag (R63). -/
theorem CrossCheck.update_outvoted (x : CrossCheck) :
    x.update .outvoted =
      { outvoted := min 8 (x.outvoted + 1), agreement := 0
        flag := x.flag || decide (8 ≤ x.outvoted + 1) } := by
  by_cases h : 8 ≤ x.outvoted + 1 <;> simp [CrossCheck.update, bump, h]

/-- The eighth window of an agreement streak clears the flag (R63). -/
theorem CrossCheck.update_agreed (x : CrossCheck) :
    x.update .agreed =
      { outvoted := 0, agreement := min 8 (x.agreement + 1)
        flag := x.flag && !decide (8 ≤ x.agreement + 1) } := by
  by_cases h : 8 ≤ x.agreement + 1 <;> simp [CrossCheck.update, bump, h]

/-- The streaks and the flag after a run, by the majority of the peers that judge it (R62, R63). -/
theorem CrossCheck.update_judge (x : CrossCheck) (tx : Nat) (k : Num) (y : List CloseRecord) (w : View) :
    x.update (judge tx k y w) =
      if crossChecks k y w = false then x
      else if (freshActive w).length < 2 * disagreeing tx k y w then
        { outvoted := min 8 (x.outvoted + 1), agreement := 0
          flag := x.flag || decide (8 ≤ x.outvoted + 1) }
      else
        { outvoted := 0, agreement := min 8 (x.agreement + 1)
          flag := x.flag && !decide (8 ≤ x.agreement + 1) } := by
  rw [judge_eq]
  split
  · rfl
  · split
    · exact x.update_outvoted
    · exact x.update_agreed

theorem freshActive_eq (w : View) :
    freshActive w = (w.records.filter fun r => r.fresh).filter fun r => decide (r.state = .active) := by
  simp [freshActive, List.filter_filter, Bool.and_comm]

/-- Settles O60: the cross-check's verdict is that of the majority of the peers, and the rest stands. -/
theorem runCompletionInFault : Obligations.RunCompletionInFault := by
  intro s r v hr hv hf hcopy m fresh active own against judged x
  have hnext : exec .runCompletion s = .next (s.completeRunInFault v r) := by
    simp [exec, execRunCompletion, hr, hv, hf, copying_eq_false.mpr hcopy, StationState.live]
  have hactive : freshActive s.peers.view = active := freshActive_eq _
  have hagainst : disagreeing v.tx r.number s.history s.peers.view = against := by
    rw [disagreeing, hactive]
    rfl
  have hjudged : crossChecks r.number s.history s.peers.view = judged := by
    rw [crossChecks, hactive]
    rfl
  have hxcheck := s.xcheck.update_judge v.tx r.number s.history s.peers.view
  rw [hjudged, hactive, hagainst] at hxcheck
  rw [hnext, State.completeRunInFault, hxcheck]
  rfl

/-! ## Reset-line assertion -/

/-- Settles O7: every block of the state after the assertion, table by table. -/
theorem resetLineAssertionValues : Obligations.ResetLineAssertionValues := by
  intro s hp
  have hnext : exec .resetLineAssertion s = .next s.assertReset := by
    simp [exec, execResetLineAssertion, hp]
  refine ⟨s.assertReset, hnext, ?_, rfl, rfl, rfl, hp, rfl, rfl, rfl⟩
  have hbank : ∀ i, (s.assertReset.store.get i) = Bank.reset := fun i => by cases i <;> rfl
  refine ⟨⟨rfl, rfl, rfl, rfl, rfl, rfl, rfl, rfl⟩, ⟨rfl, rfl, rfl, rfl, rfl, rfl, rfl, rfl⟩,
    fun i => by rw [hbank]; exact ⟨rfl, rfl⟩, ⟨rfl, rfl, rfl, rfl⟩, rfl, rfl, rfl, rfl, rfl,
    ⟨rfl, rfl, rfl, rfl, rfl, rfl, rfl, rfl, rfl, rfl, rfl, rfl⟩, rfl, rfl,
    ⟨rfl, rfl, rfl, rfl, rfl, rfl, rfl⟩, rfl, rfl, rfl⟩

/-! ## The end of a setup read -/

/-- FAULT entry from OFF or SETUP finds nothing to stop (R172). -/
theorem RestsInOff.enterFault_eq (h : RestsInOff s) (hr : s.resting) :
    s.enterFault = { s with station := { s.station with state := .fault } } := by
  obtain ⟨-, hacq, -, -, -, -, hcorr, hpeers, hline, hplan, hstreamer, hlink, -⟩ := h hr
  have hacq' : s.acq.stop = s.acq := by rw [hacq]; rfl
  have hpeers' : { s.peers with work := .idle } = s.peers := by rw [hpeers]; rfl
  have hline' : s.line.stop = s.line := by rw [hline]; rfl
  have hplan' : s.plan.clear = s.plan := by rw [hplan]; rfl
  have hstreamer' : { s.streamer with play := .idle } = s.streamer := by rw [hstreamer]; rfl
  have hlink' : s.link.stop = s.link := by rw [hlink]; rfl
  rw [State.enterFault, State.stopStreamer]
  dsimp only
  rw [hacq', hpeers', hline', hplan', hstreamer', hlink', ← hcorr]

/-- Settles O9: LISTEN entry with a passing image; with a failing one FAULT entry finds nothing to stop. -/
theorem setupReadEnds : Obligations.SetupReadEnds := by
  refine ⟨fun image v s hs hv => ?_, fun image s hs hrests hv => ?_⟩
  · intro trim p low
    have hnext : exec (.setupReadCompletion image) s
        = .next (State.enterListen { s with pins := { s.pins with spiSelect := false, spiSent := [] } } v) := by
      simp [exec, execSetupReadCompletion, State.finishRead, hs, hv]
    have hperiod : periodOf v.freq trim 0 = p :=
      congrArg Int.toNat ((sub_zero _).trans (congrArg (· + trim) (nominalPeriod_eq v.freq)))
    rw [hnext, State.enterListen, Synchronizer.start]
    dsimp only
    rw [hperiod]
    rfl
  · have hnext : exec (.setupReadCompletion image) s
        = .next (State.enterFault { s with pins := { s.pins with spiSelect := false, spiSent := [] } }) := by
      simp [exec, execSetupReadCompletion, State.finishRead, hs, hv]
    have hrests' : RestsInOff { s with pins := { s.pins with spiSelect := false, spiSent := [] } } := hrests
    rw [hnext, hrests'.enterFault_eq (.inr hs)]

end Sys2Proof.Machine
end

section
/-! The number kinds of the engine: the saturation flag of a run, scale, divide-16, the M-norm, reduce, negation
and the saturating add (03, section 3.2). -/

namespace Sys2Proof.Machine

open Sys2Proof

/-! ## The saturation flag of a run -/

/-- Both kinds of run completion leave the flag of the load chain, and no other one answers (R39, R55, R173). -/
theorem flagFromLoadChain : FlagFromLoadChain := by
  intro s t r hr h hstate hsetup
  obtain ⟨r', v, hr', -, -, ⟨-, -, rfl⟩ | ⟨-, rfl⟩ | ⟨hlive, hfault, -⟩⟩ | ⟨hnone | hnone, -⟩ :=
    runCompletion_next h
  · obtain rfl : r = r' := Option.some.inj (hr.symm.trans hr')
    rfl
  · obtain rfl : r = r' := Option.some.inj (hr.symm.trans hr')
    rfl
  · simp [hlive, hfault] at hstate
  · simp [hr] at hnone
  · simp [hnone] at hsetup

/-! ## Scale and divide-16 -/

/-- The magnitude of the exact quotient that scale forms (R45). -/
theorem natAbs_mul_tdiv (x : Int) (k : Nat) : ((x * k).tdiv 65536).natAbs = x.natAbs * k / 65536 := by
  rw [Int.natAbs_tdiv, Int.natAbs_mul]
  rfl

/-- A factor below 65,536 does not enlarge (R45). -/
theorem mul_div_factor_le {k : Nat} (hk : k ≤ 65535) (n : Nat) : n * k / 65536 ≤ n :=
  Nat.div_le_of_le_mul ((Nat.mul_le_mul_left n (hk.trans (by decide))).trans_eq (Nat.mul_comm _ _))

theorem mul_tdiv_nonneg {x : Int} (hx : 0 ≤ x) (k : Nat) : 0 ≤ (x * k).tdiv 65536 :=
  Int.tdiv_nonneg (Int.mul_nonneg hx k.cast_nonneg) (by decide)

theorem mul_tdiv_nonpos {x : Int} (hx : x ≤ 0) (k : Nat) : (x * k).tdiv 65536 ≤ 0 := by
  have hneg := mul_tdiv_nonneg (neg_nonneg.mpr hx) k
  rwa [Int.neg_mul, Int.neg_tdiv, neg_nonneg] at hneg

/-- Scale never saturates: its exact quotient lies in the fraction range (R45). -/
theorem toInt_scale (x : Frac) {k : Nat} (hk : k ≤ 65535) :
    (scale x k).toInt = (x.toInt * k).tdiv 65536 := by
  have hrange := frac_range x
  have hsize := (natAbs_mul_tdiv x.toInt k).trans_le (mul_div_factor_le hk _)
  have hpos := mul_tdiv_nonneg (x := x.toInt) (k := k)
  have hneg := mul_tdiv_nonpos (x := x.toInt) (k := k)
  exact toInt_ofInt_frac (by omega) (by omega)

theorem natAbs_scale (x : Frac) {k : Nat} (hk : k ≤ 65535) :
    (scale x k).toInt.natAbs = x.toInt.natAbs * k / 65536 := by
  rw [toInt_scale x hk, natAbs_mul_tdiv]

theorem scale_zero (x : Frac) : scale x 0 = 0 := by simp [scale]

/-- A floored quotient is the last whose multiple does not pass the dividend (R45, R46). -/
theorem lt_succ_div_mul (a : Nat) {b : Nat} (hb : 0 < b) : a < (a / b + 1) * b :=
  (Nat.lt_mul_div_succ a hb).trans_eq (Nat.mul_comm _ _)

/-- Where `a` reaches `b` the quotient is past 65,535 and is held (R46). -/
theorem divide16_of_le {a b : Nat} (hb : 0 < b) (h : b ≤ a) : divide16 a b = 65535 := by
  have hquot : 65535 ≤ a * 65536 / b := (Nat.le_div_iff_mul_le hb).mpr (by omega)
  exact min_eq_left hquot

/-- Where `a` is below `b` the quotient is not held (R46). -/
theorem divide16_of_lt {a b : Nat} (h : a < b) : divide16 a b = a * 65536 / b := by
  have hquot : a * 65536 / b < 65536 := Nat.div_lt_of_lt_mul (by omega)
  exact min_eq_right (Nat.le_of_lt_succ hquot)

/-- Settles O24: a truncated quotient by 65,536 is bracketed by its multiples, and the hold of divide-16 acts
exactly where `a` reaches `b`. -/
theorem scaleAndDivide16 : Obligations.ScaleAndDivide16 := by
  refine ⟨fun x k hk => ?_, fun a b hb => ⟨min_le_left _ _, fun h => ?_, divide16_of_le hb⟩, flagFromLoadChain⟩
  · rw [natAbs_scale x hk, toInt_scale x hk]
    exact ⟨rfl, (mul_tdiv_nonneg · k), (mul_tdiv_nonpos · k), mul_div_factor_le hk _,
      Nat.div_mul_le_self _ _, lt_succ_div_mul _ (by decide), scale_zero x⟩
  · rw [divide16_of_lt h]
    exact ⟨Nat.div_mul_le_self _ _, lt_succ_div_mul _ hb⟩

/-! ## The M-norm -/

/-- The squared magnitude of a pair is that of its larger and its smaller part. -/
theorem sq_add_sq_eq_max_min (m n : Nat) : m ^ 2 + n ^ 2 = max m n ^ 2 + min m n ^ 2 := by
  rcases le_total m n with h | h
  · rw [max_eq_right h, min_eq_left h, Nat.add_comm]
  · rw [max_eq_left h, min_eq_right h]

/-- Twice the larger part plus the smaller and 1 is more than twice the true magnitude (R47). -/
theorem four_mul_sq_add_sq_lt {l m : Nat} (h : m ≤ l) : 4 * (l ^ 2 + m ^ 2) < (2 * l + m + 1) ^ 2 := by
  have hcross : m * m ≤ l * m := Nat.mul_le_mul_right m h
  nlinarith only [hcross]

/-- The larger part plus half the smaller is at most √5/2 of the true magnitude: the difference of the two
sides is the square of `l - 2 m` (R47). -/
theorem four_mul_sq_add_half_le (l m : Nat) : 4 * (l + m / 2) ^ 2 ≤ 5 * (l ^ 2 + m ^ 2) := by
  have hdouble : 2 * (l + m / 2) ≤ 2 * l + m := by omega
  have hsquare : (2 * l + m) ^ 2 ≤ 5 * (l ^ 2 + m ^ 2) := by
    zify
    linarith only [sq_nonneg ((l : Int) - 2 * m)]
  calc 4 * (l + m / 2) ^ 2 = (2 * (l + m / 2)) ^ 2 := by ring
    _ ≤ (2 * l + m) ^ 2 := Nat.pow_le_pow_left hdouble 2
    _ ≤ 5 * (l ^ 2 + m ^ 2) := hsquare

/-- The bound √5/2 is met where the smaller part is half the larger and even (R47). -/
theorem mnorm_sq_of_half {x y : Int} (h : x.natAbs = 2 * y.natAbs) (he : y.natAbs % 2 = 0) :
    4 * mnorm x y ^ 2 = 5 * (x.natAbs ^ 2 + y.natAbs ^ 2) := by
  obtain ⟨n, hn⟩ := Nat.dvd_of_mod_eq_zero he
  have hnorm : mnorm x y = 5 * n := by unfold mnorm; omega
  rw [hnorm, h, hn]
  ring

/-- The M-norm of two fraction codes lies in 0..12,582,912 (R47). -/
theorem mnorm_frac_le (a b : Frac) : mnorm a.toInt b.toInt ≤ 12582912 := by
  have ha := frac_range a
  have hb := frac_range b
  unfold mnorm
  omega

/-- Settles O25: each bound is one on the larger and the smaller magnitude. -/
theorem mNormBounds : Obligations.MNormBounds := by
  intro x y
  have habove : 4 * (x.natAbs ^ 2 + y.natAbs ^ 2)
      < (2 * max x.natAbs y.natAbs + min x.natAbs y.natAbs + 1) ^ 2 := by
    rw [sq_add_sq_eq_max_min]
    exact four_mul_sq_add_sq_lt min_le_max
  have hnext : 2 * max x.natAbs y.natAbs + min x.natAbs y.natAbs + 1 ≤ 2 * (mnorm x y + 1) := by
    unfold mnorm; omega
  have hroot : x.natAbs ^ 2 + y.natAbs ^ 2 < (mnorm x y + 1) ^ 2 := by
    have := habove.trans_le (Nat.pow_le_pow_left hnext 2)
    rw [Nat.mul_pow] at this
    omega
  refine ⟨rfl, mnorm_frac_le, Nat.le_of_lt_succ (Nat.sqrt_lt'.mpr hroot), habove, ?_, hnext, ?_,
    mnorm_sq_of_half, ?_, ?_⟩
  · unfold mnorm; omega
  · rw [sq_add_sq_eq_max_min]
    exact four_mul_sq_add_half_le _ _
  · simp [mnorm]
  · simp [mnorm]

/-! ## Reduce -/

/-- A rounded value is within half a unit, and at exactly half a unit it is even (R43). -/
theorem roundHalfEven_nearest (x : Int) (k : Nat) :
    2 * (roundHalfEven x k * 2 ^ k - x) ≤ 2 ^ k ∧ 2 * (x - roundHalfEven x k * 2 ^ k) ≤ 2 ^ k
      ∧ (2 * (roundHalfEven x k * 2 ^ k - x) = 2 ^ k ∨ 2 * (x - roundHalfEven x k * 2 ^ k) = 2 ^ k →
          roundHalfEven x k % 2 = 0) := by
  unfold roundHalfEven
  push_cast
  have hpos : (0 : Int) < 2 ^ k := by positivity
  have hlow := Int.emod_nonneg x hpos.ne'
  have hdiv := Int.mul_ediv_add_emod x (2 ^ k)
  rw [Int.mul_comm] at hdiv
  generalize (2 : Int) ^ k = p at *
  have hup := Int.emod_lt_of_pos x hpos
  generalize x / p = q at *
  generalize x % p = r at *
  have hsucc : (q + 1) * p = q * p + p := add_one_mul q p
  split
  · omega
  · split
    · rw [hsucc]; omega
    · split
      · omega
      · rw [hsucc]; omega

/-- A reduction saturates exactly where the rounded code lies outside the fraction range (R43). -/
theorem reduceAt_sat (k : Nat) (acc : Int) :
    (reduceAt k acc).sat = true
      ↔ roundHalfEven acc k < -8388608 ∨ 8388607 < roundHalfEven acc k := by
  simp only [reduceAt, Bool.or_eq_true, decide_eq_true_eq]
  rfl

/-- Settles O26, for every rounding point: the code is the rounded one, clamped once. -/
theorem reduceRoundsHalfEven : Obligations.ReduceRoundsHalfEven := by
  intro acc k _
  obtain ⟨habove, hbelow, heven⟩ := roundHalfEven_nearest acc k
  exact ⟨roundHalfEven acc k, habove, hbelow, heven, toInt_satFrac _, reduceAt_sat k acc, fun h => h ▸ rfl⟩

/-! ## Negation and the saturating add -/

/-- The one code without an opposite (R44). -/
theorem toInt_eq_lowest_iff (x : Frac) : x.toInt = -8388608 ↔ x = 0x800000#24 :=
  BitVec.toInt_inj (y := 0x800000#24)

/-- A negation of the load chain that meets -8,388,608 sets the flag of the run (R44, R53, R55). -/
theorem measureWindow_saturated_of_negation (records : List ScanRecord) :
    let load := extractSet records fun r => r.codes.load
    (positiveSequence load).im = 0x800000#24 ∨ (negativeSequence load).re = 0x800000#24
        ∨ (negativeSequence load).im = 0x800000#24 →
      (measureWindow records).saturated = true := by
  intro load h
  obtain ⟨-, -, -, -, -, hflag, -, -⟩ := demandDeliveredUsable.2.2 records
  simp only [toInt_eq_lowest_iff] at hflag
  exact hflag.mpr (.inr (.inr (.inr (.inr (.inr h)))))

/-- Settles O27: negation is exact away from the lowest code, and the add is the exact sum clamped. -/
theorem negationAndSaturatingAdd : Obligations.NegationAndSaturatingAdd := by
  refine ⟨fun x y => ⟨fun hx => ?_, by decide, by decide, toInt_satFrac _, fun hl hh => ?_⟩,
    measureWindow_saturated_of_negation, flagFromLoadChain⟩
  · have hx' := mt (toInt_eq_lowest_iff x).mp hx
    have hrange := frac_range x
    refine ⟨?_, Bool.eq_false_iff.mpr (mt (negate_sat x).mp hx')⟩
    rw [toInt_negate]
    omega
  · exact (toInt_satFrac _).trans (clamp_of_mem hl hh)

end Sys2Proof.Machine
end

section
/-! What an offset of a channel adds to its sums over a cycle window, and what a common component adds to the
decomposition (R50, R52). -/

namespace Sys2Proof.Machine

open Sys2Proof

/-! ## The half-turn of the reference table -/

/-- T[64 + j] = T[64 - j] (R18). -/
theorem halfSine_reflect {k : Nat} (h : k ≤ 128) : halfSine (128 - k) = halfSine k := by
  unfold halfSine
  rcases Nat.lt_trichotomy k 64 with hk | rfl | hk
  · rw [if_neg (by omega), if_pos (by omega), show 128 - (128 - k) = k by omega]
  · rfl
  · rw [if_pos (by omega), if_neg (by omega)]

theorem halfSine_ends : halfSine 0 = 0 ∧ halfSine 128 = 0 := by decide

/-- Half a turn negates the sine: T[k + 128] = -T[k] (R18). -/
theorem sine_add_half_turn (k : Nat) : sine (k + 128) = -sine k := by
  obtain ⟨hzero, hend⟩ := halfSine_ends
  unfold sine
  rcases Nat.lt_or_ge (k % 256) 128 with hk | hk
  · rw [show (k + 128) % 256 = k % 256 + 128 by omega, if_pos hk.le]
    rcases Nat.eq_zero_or_pos (k % 256) with h0 | h0
    · simp [h0, hzero, hend]
    · rw [if_neg (by omega), Nat.add_comm, ← Nat.sub_sub, halfSine_reflect hk.le]
  · rw [show (k + 128) % 256 = k % 256 - 128 by omega, if_pos (by omega)]
    rcases hk.eq_or_lt with h0 | h0
    · simp [← h0, hzero, hend]
    · rw [if_neg (by omega), neg_neg, ← halfSine_reflect (by omega),
        show 128 - (k % 256 - 128) = 256 - k % 256 by omega]

theorem cosine_add_half_turn (k : Nat) : cosine (k + 128) = -cosine k := by
  unfold cosine
  rw [Nat.add_right_comm, sine_add_half_turn]

/-! ## A constant offset -/

/-- Over a cycle window, what half a turn negates cancels in pairs (R50). -/
theorem sum_window_eq_zero {records : List ScanRecord} {f : Nat → Int} (hf : ∀ k, f (k + 128) = -f k)
    (hlen : records.length = 64) (hnodup : (records.map fun r => r.index).Nodup) :
    (records.map fun r => f (tableIndex r.index)).sum = 0 := by
  have hinj : (records.map fun r => r.index.toNat).Nodup := by
    have := hnodup.map (f := BitVec.toNat) fun _ _ => BitVec.eq_of_toNat_eq
    rwa [List.map_map] at this
  have hall : (records.map fun r => r.index.toNat).toFinset = Finset.range 64 := by
    refine Finset.eq_of_subset_of_card_le (fun m hm => ?_) ?_
    · obtain ⟨r, -, rfl⟩ := List.mem_map.mp (List.mem_toFinset.mp hm)
      exact Finset.mem_range.mpr r.index.isLt
    · rw [List.toFinset_card_of_nodup hinj, List.length_map, hlen, Finset.card_range]
  calc (records.map fun r => f (tableIndex r.index)).sum
      = ((records.map fun r => r.index.toNat).map fun m => f (4 * m)).sum := by rw [List.map_map]; rfl
    _ = ∑ m ∈ Finset.range 64, f (4 * m) := by rw [← List.sum_toFinset _ hinj, hall]
    _ = ∑ m ∈ Finset.range 32, f (4 * m) + ∑ m ∈ Finset.range 32, f (4 * m + 128) := by
      rw [Finset.sum_range_add (fun m => f (4 * m)) 32 32]
      simp only [Nat.mul_add, Nat.add_comm 32]
    _ = 0 := by simp [hf]

/-- Over a cycle window a constant offset of a channel adds nothing to a sum against a wave that half a turn
negates (R50). -/
theorem sum_offset_eq {records : List ScanRecord} {x y : ScanRecord → Code} {c : Int} {f : Nat → Int}
    (hf : ∀ k, f (k + 128) = -f k) (hlen : records.length = 64)
    (hnodup : (records.map fun r => r.index).Nodup) (hxy : ∀ r ∈ records, (y r).toInt = (x r).toInt + c) :
    (records.map fun r => codeFraction (y r) * f (tableIndex r.index)).sum
      = (records.map fun r => codeFraction (x r) * f (tableIndex r.index)).sum := by
  have hterm : ∀ r ∈ records, codeFraction (y r) * f (tableIndex r.index)
      = codeFraction (x r) * f (tableIndex r.index) + c * 256 * f (tableIndex r.index) := by
    intro r hr
    rw [codeFraction, codeFraction, hxy r hr]
    ring
  rw [List.map_congr_left hterm, List.sum_map_add, List.sum_map_mul_left, sum_window_eq_zero hf hlen hnodup]
  ring

/-- The sums are exact, so the order of the records does not change a phasor (R49). -/
theorem extract_perm {records other : List ScanRecord} (x : ScanRecord → Code) (h : records.Perm other) :
    extract records x = extract other x := by
  have hsine : sineSum records x = sineSum other x := (h.map _).sum_eq
  have hcosine : cosineSum records x = cosineSum other x := (h.map _).sum_eq
  rw [extract, extract, hsine, hcosine]

/-! ## A common component -/

/-- A common component adds its own code, since K3 exceeds twice K6 by one (R52). -/
theorem sequenceSum_common {a b c p q a' b' c' p' q' : Frac} {z w : Int} (ha : a'.toInt = a.toInt + z)
    (hb : b'.toInt = b.toInt + z) (hc : c'.toInt = c.toInt + z) (hp : p'.toInt = p.toInt + w)
    (hq : q'.toInt = q.toInt + w) : sequenceSum a' b' c' p' q' = sequenceSum a b c p q + z := by
  simp only [sequenceSum, k3, k6, ks, ha, hb, hc, hp, hq]
  ring

/-- Parts that add to zero leave half of the first, since K3 and K6 add to 2^22 (R52). -/
theorem sequenceSum_balanced {a b c : Frac} (p q : Frac) (h : a.toInt + b.toInt + c.toInt = 0) :
    sequenceSum a b c p q = 2 ^ 22 * a.toInt + 2421583 * (p.toInt - q.toInt) := by
  simp only [sequenceSum, k3, k6, ks]
  linarith only [h]

/-- Settles O28: the sine and the cosine are both negated by half a turn, and the constants of the decomposition
meet the two identities of R52. -/
theorem offsetAndZeroSequence : Obligations.OffsetAndZeroSequence := by
  refine ⟨fun records x y c hlen hnodup hxy => ⟨?_, ?_⟩, fun records other x => extract_perm x, ?_, ?_⟩
  · exact sum_offset_eq sine_add_half_turn hlen hnodup hxy
  · exact sum_offset_eq cosine_add_half_turn hlen hnodup hxy
  · exact fun _ _ _ _ _ _ _ _ _ _ _ _ => sequenceSum_common
  · exact fun _ _ _ p q => sequenceSum_balanced p q

end Sys2Proof.Machine
end

section
/-! The correction: what a run completion makes of it, its bound, and its zero outside ACTIVE. -/

namespace Sys2Proof.Machine

open Sys2Proof

variable {s t : State}

/-! ## The own counted status -/

/-- The start of a merge leaves the view that the run in flight will read (R95, R104). -/
theorem State.startMerge_runCounted (s : State) :
    s.startMerge.peers.runCounted = s.peers.runCounted := by
  obtain e | ⟨i, rest, hw, -, e⟩ := s.startMerge_cases <;> rw [e]
  simp [PeerTable.runCounted, hw]

/-- Without a copy in hand the run reads the view that stands (R104). -/
theorem PeerTable.runCounted_of_not_copying {p : PeerTable} (h : p.work.copying = false) :
    p.runCounted = p.view.ownCounted := by
  unfold PeerTable.runCounted
  cases hw : p.work <;> simp_all [TableWork.copying]

/-- A step that starts no run, keeps the station state and leaves the view of the run keeps the law. -/
theorem CountedOnlyActive.of_eq (h : CountedOnlyActive s) (he : t.engine.run = s.engine.run)
    (hs : t.station.state = s.station.state) (hc : t.peers.runCounted = s.peers.runCounted) :
    CountedOnlyActive t := by
  unfold CountedOnlyActive
  rw [he, hs, hc]
  exact h

theorem countedOnlyActive_of_not_live (h : t.station.state.live = false) : CountedOnlyActive t :=
  fun _ hl => by simp [h] at hl

theorem countedOnlyActive_of_no_run (h : t.engine.run = none) : CountedOnlyActive t :=
  fun hr => by simp [h] at hr

theorem resets_countedOnlyActive {c : Instr} (h : Resets s c t) : CountedOnlyActive t :=
  countedOnlyActive_of_not_live (by rw [(resets_off h).1]; rfl)

/-- A close copies the counted status of an ACTIVE station only, a completion ends the run with its evaluation,
and no run is in flight at LISTEN entry (R35, R39, R74, R103). -/
theorem CountedOnlyActive.acts (h : CountedOnlyActive s) (hrest : RestsInOff s) (a : Acts s t) :
    CountedOnlyActive t := by
  cases a with
  | nothing | silence | scan | deadline | line | sent => exact h
  | off p w x _ hx => exact countedOnlyActive_of_not_live (by rcases hx with rfl | rfl <;> rfl)
  | badImage | conflict => exact countedOnlyActive_of_not_live rfl
  | listen p image v hs =>
    obtain ⟨-, -, -, hrun, -⟩ := hrest.idle (.inr hs)
    exact countedOnlyActive_of_no_run hrun
  | run | runInFault => exact countedOnlyActive_of_no_run rfl
  | expiry | status => exact h.of_eq (by simp) (by simp) (by simp)
  | close =>
    intro _ _ hc
    exact of_decide_eq_true (Bool.and_eq_true_iff.mp hc).1
  | copied w hw =>
    exact h.of_eq (by simp) (by simp)
      ((State.startMerge_runCounted _).trans (by simp [PeerTable.runCounted, hw]))
  | received => exact h.of_eq (by simp) (by simp) (State.startMerge_runCounted _)
  | merged i f es n hw =>
    exact h.of_eq (by simp) (by simp)
      ((State.startMerge_runCounted _).trans (by simp [PeerTable.runCounted, hw]))

/-! ## The correction of a run -/

/-- A new part of an unfrozen run is the clamped sum: ±Cmax lies within the fraction range (R70, R164). -/
theorem toInt_correctPart {v : Setup} (h : v.cmax ≤ 2097152) (c x : Frac) :
    (correctPart v c x).toInt = clamp (-v.cmax) v.cmax (c.toInt + correctionStep v.gain x) := by
  have hlow := le_clamp (lo := -v.cmax) (hi := v.cmax) (x := c.toInt + correctionStep v.gain x)
  have hhigh := clamp_le (lo := -v.cmax) (hi := v.cmax) (x := c.toInt + correctionStep v.gain x) (by omega)
  exact toInt_ofInt_frac (by omega) (by omega)

theorem partWithin_correctPart {v : Setup} (h : v.cmax ≤ 2097152) (c x : Frac) :
    PartWithin v.cmax (correctPart v c x) := by
  rw [PartWithin, toInt_correctPart h]
  exact ⟨le_clamp, clamp_le (by omega)⟩

/-- Each part of a triple lies within ±`m`. -/
def TripleWithin (m : Nat) (x : Triple) : Prop := PartWithin m x.q ∧ PartWithin m x.re ∧ PartWithin m x.im

theorem tripleWithin_zero (m : Nat) : TripleWithin m .zero := by simp [TripleWithin, PartWithin, Triple.zero]

/-- The correction is frozen where record `k - 3` or record `k - 1` is missing (R68). -/
theorem correctionFrozen_of_missing {k : Num} {y : List CloseRecord}
    (h : findRecord y (k - 3) = none ∨ findRecord y (k - 1) = none) (lock : Lock) (w : View)
    (c : Correction) : correctionFrozen k lock y w c = true := by
  refine (correctionFrozen_iff k lock y w c).mpr (.inr (.inr ?_))
  obtain hn | hn := h
  · exact .inl fun x hx => nomatch hn.symm.trans hx
  · exact .inr (.inl fun x hx => nomatch hn.symm.trans hx)

/-- A run holds the correction or moves each part by its clamped step (R68, R70). -/
theorem nextCorrection_cases (v : Setup) (k : Num) (lock : Lock) (y : List CloseRecord) (w : View)
    (c : Correction) :
    (correctionFrozen k lock y w c = true ∧ nextCorrection v k lock y w c = c.c)
      ∨ (correctionFrozen k lock y w c = false ∧ ∃ a b, findRecord y (k - 3) = some a
        ∧ findRecord y (k - 1) = some b
        ∧ nextCorrection v k lock y w c = correctTriple v c.c (shortfall a.d b.e (countedRecords w))) := by
  unfold nextCorrection
  cases hf : correctionFrozen k lock y w c with
  | true => exact .inl ⟨rfl, rfl⟩
  | false =>
    cases ha : findRecord y (k - 3) with
    | none => exact nomatch hf.symm.trans (correctionFrozen_of_missing (.inl ha) lock w c)
    | some a =>
      cases hb : findRecord y (k - 1) with
      | none => exact nomatch hf.symm.trans (correctionFrozen_of_missing (.inr hb) lock w c)
      | some b => exact .inr ⟨rfl, a, b, rfl, rfl, rfl⟩

theorem tripleWithin_nextCorrection {v : Setup} (hv : v.cmax ≤ 2097152) {c : Correction}
    (hc : TripleWithin v.cmax c.c) (k : Num) (lock : Lock) (y : List CloseRecord) (w : View) :
    TripleWithin v.cmax (nextCorrection v k lock y w c) := by
  obtain ⟨-, e⟩ | ⟨-, a, b, -, -, e⟩ := nextCorrection_cases v k lock y w c <;> rw [e]
  · exact hc
  · exact ⟨partWithin_correctPart hv _ _, partWithin_correctPart hv _ _, partWithin_correctPart hv _ _⟩

/-- A correction at zero stays there while the station is not counted (R68, R69). -/
theorem Correction.update_reset (v : Setup) (k : Num) (lock : Lock) (y : List CloseRecord) {w : View}
    (hw : w.ownCounted = false) : Correction.reset.update v k lock y w = Correction.reset := by
  simp [Correction.update, nextCorrection, correctionFrozen, hw, Correction.reset]

theorem settleCorrection_of_stay {b a : StationState} (h : b = .active ↔ a = .active) (c : Correction) :
    settleCorrection b a c = c := if_pos (decide_eq_decide.mpr h)

theorem settleCorrection_of_move {b a : StationState} (h : ¬(b = .active ↔ a = .active)) (c : Correction) :
    settleCorrection b a c = Correction.reset := if_neg (mt decide_eq_decide.mp h)

/-- The correction after a run completion, by the lock state of its own update (R39, R68, R71). -/
theorem State.completeRun_corr (s : State) (v : Setup) (r : Run) :
    (s.completeRun v r).corr
      = settleCorrection s.station.state (s.completeRun v r).station.state
        (s.corr.update v r.number (s.completeRun v r).sync.lock s.history s.peers.view) := rfl

/-! ## Every step keeps the correction -/

/-- A step that keeps the station state, the setup values and the correction keeps its soundness. -/
theorem CorrectionSound.of_eq (h : CorrectionSound s) (hs : t.station.state = s.station.state)
    (hv : t.station.setup = s.station.setup) (hc : t.corr = s.corr) : CorrectionSound t := by
  unfold CorrectionSound
  rw [hs, hv, hc]
  exact h

/-- A correction at zero is sound in any state whose setup values are (R71). -/
theorem correctionSound_of_reset (hv : SetupSound t) (hc : t.corr = Correction.reset) :
    CorrectionSound t := by
  refine ⟨fun _ => hc, fun v hsetup => ?_, hc ▸ Nat.zero_le 3⟩
  obtain ⟨-, -, -, -, -, -, hcmax, -⟩ := hv.1 v hsetup
  exact ⟨hcmax, hc ▸ tripleWithin_zero v.cmax⟩

/-- A run completion: zero where the station enters or leaves ACTIVE, clamped where it stays ACTIVE, and at
rest elsewhere, since the station is not counted there (R69 to R71, R74). -/
theorem CorrectionSound.completeRun (h : CorrectionSound s) (hcount : CountedOnlyActive s) {r : Run}
    {v : Setup} (hr : s.engine.run = some r) (hv : s.station.setup = some v)
    (hcopy : s.peers.work.copying = false) (hl : s.station.state.live = true)
    (ht : SetupSound (s.completeRun v r)) : CorrectionSound (s.completeRun v r) := by
  obtain ⟨hzero, hwithin, hsettle⟩ := h
  obtain ⟨hcmax, hc⟩ := hwithin v hv
  have hcorr := s.completeRun_corr v r
  by_cases hstay : s.station.state = .active ↔ (s.completeRun v r).station.state = .active
  · rw [settleCorrection_of_stay hstay] at hcorr
    by_cases hactive : s.station.state = .active
    · refine ⟨fun hn => absurd (hstay.mp hactive) hn, fun w hw => ?_,
        settleCorrection_settling hsettle _ _ _ _ _ _ _⟩
      obtain rfl : v = w := Option.some.inj (hv.symm.trans ((Station.evaluate_setup ..).symm.trans hw))
      rw [hcorr]
      exact ⟨hcmax, tripleWithin_nextCorrection hcmax hc _ _ _ _⟩
    · have hown : s.peers.view.ownCounted = false := by
        rw [← PeerTable.runCounted_of_not_copying hcopy]
        exact Bool.eq_false_iff.mpr fun hrc => hactive (hcount (by simp [hr]) hl hrc)
      refine correctionSound_of_reset ht ?_
      rw [hcorr, hzero hactive, Correction.update_reset _ _ _ _ hown]
  · exact correctionSound_of_reset ht (hcorr.trans (settleCorrection_of_move hstay _))

theorem resets_correctionSound {c : Instr} (h : Resets s c t) : CorrectionSound t :=
  correctionSound_of_reset (resets_setupSound h) (by cases h <;> rfl)

theorem CorrectionSound.acts (h : CorrectionSound s) (hcount : CountedOnlyActive s) (hsetup : SetupSound s)
    (a : Acts s t) : CorrectionSound t := by
  have ht := hsetup.acts a
  cases a with
  | nothing | silence | scan | deadline | close | runInFault | line | sent => exact h
  | expiry | status | copied | received | merged => exact h.of_eq (by simp) (by simp) (by simp)
  | off p w x hoff => exact correctionSound_of_reset ht (h.1 (by simp [hoff]))
  | listen p image v hs => exact correctionSound_of_reset ht (h.1 (by simp [hs]))
  | badImage | conflict => exact correctionSound_of_reset ht rfl
  | run r v hr hv hcopy hl => exact h.completeRun hcount hr hv hcopy hl ht

/-- Settles O32: the four laws together, each kept by every kind of command. -/
theorem correctionSoundKept : Obligations.CorrectionSoundKept := by
  intro s t
  refine kept_of_acts
    (P := fun s => RestsInOff s ∧ CountedOnlyActive s ∧ SetupSound s ∧ CorrectionSound s)
    (fun _ _ h => h) (fun _ _ _ h => ?_) (fun _ _ h a => ?_)
  · exact ⟨resets_restsInOff h, resets_countedOnlyActive h, resets_setupSound h, resets_correctionSound h⟩
  · obtain ⟨hrest, hcount, hsetup, hcorr⟩ := h
    exact ⟨hrest.acts a, hcount.acts hrest a, hsetup.acts a, hcorr.acts hcount hsetup a⟩

end Sys2Proof.Machine
end

section
/-! The cross-check: the distance of two demands, a run's outcome at its completion, and the streaks over any
number of runs. -/

namespace Sys2Proof.Machine

open Sys2Proof

variable {s : State}

/-! ## Distance -/

/-- The difference of two fraction codes needs 25 bits (R61). -/
theorem frac_sub_range (x y : Frac) : -16777215 ≤ x.toInt - y.toInt ∧ x.toInt - y.toInt ≤ 16777215 := by
  have hx := frac_range x
  have hy := frac_range y
  omega

/-- The magnitude of a difference does not depend on which side forms it (R61). -/
theorem distance_comm (x y : Triple) : distance x y = distance y x := by
  unfold distance mnorm
  omega

theorem distance_le (x y : Triple) : distance x y ≤ 41943037 := by
  have hq := frac_sub_range y.q x.q
  have hre := frac_sub_range y.re x.re
  have him := frac_sub_range y.im x.im
  unfold distance mnorm
  omega

/-- Settles O29: each difference lies within ±16,777,215, and the distance is of the magnitudes alone. -/
theorem distanceOfDemands : Obligations.DistanceOfDemands := by
  refine ⟨fun own r tx => ?_, fun image v h => ?_, flagFromLoadChain⟩
  · intro dq dre dim
    have hq := frac_sub_range r.d.q own.q
    exact ⟨rfl, hq.1, hq.2, distance_le own r.d, distance_comm own r.d, frac_sub_range r.d.re own.re,
      frac_sub_range r.d.im own.im, decide_eq_true_iff⟩
  · obtain ⟨-, -, -, -, -, -, -, hlow, hhigh, -⟩ := readImage_setupInRange h
    exact ⟨hlow, hhigh⟩

/-! ## The outcome at a completion -/

/-- The cross-check of a completion, in LISTEN, ACTIVE and HOLD and in FAULT (R39, R173). -/
theorem runCompletion_xcheck {r : Run} {v : Setup} (hr : s.engine.run = some r)
    (hv : s.station.setup = some v) (hcopy : ∀ w, s.peers.work ≠ .copy w)
    (h : (s.station.state.live = true ∧ s.line.slot = none) ∨ s.station.state = .fault) :
    ∃ t, exec .runCompletion s = .next t
      ∧ t.xcheck = s.xcheck.update (judge v.tx r.number s.history s.peers.view) := by
  obtain ⟨hl, hslot⟩ | hf := h
  · exact ⟨_, runCompletion_eq hr hv hl hslot hcopy, rfl⟩
  · refine ⟨s.completeRunInFault v r, ?_, rfl⟩
    simp [exec, execRunCompletion, hr, hv, hf, copying_eq_false.mpr hcopy, StationState.live]

/-! ## The streaks over any number of runs -/

/-- The cross-check with the parts of the two streaks exchanged. -/
def CrossCheck.mirror (x : CrossCheck) : CrossCheck := ⟨x.agreement, x.outvoted, !x.flag⟩

/-- The outcome with the parts of the two streaks exchanged. -/
def Verdict.mirror : Verdict → Verdict
  | .notJudged => .notJudged
  | .outvoted => .agreed
  | .agreed => .outvoted

theorem Verdict.mirror_involutive : Function.Involutive Verdict.mirror := fun d => by cases d <;> rfl

/-- The table of R63 treats the two streaks alike: one sets the flag as the other clears it. -/
theorem CrossCheck.update_mirror (x : CrossCheck) (d : Verdict) :
    x.mirror.update d.mirror = (x.update d).mirror := by
  cases d with
  | notJudged => rfl
  | outvoted => simp [Verdict.mirror, CrossCheck.mirror, update_outvoted, update_agreed]
  | agreed => simp [Verdict.mirror, CrossCheck.mirror, update_outvoted, update_agreed]

theorem CrossCheck.foldl_mirror (x : CrossCheck) (l : List Verdict) :
    (l.map Verdict.mirror).foldl CrossCheck.update x.mirror = (l.foldl CrossCheck.update x).mirror := by
  induction l generalizing x with
  | nil => rfl
  | cons d l ih => rw [List.map_cons, List.foldl_cons, List.foldl_cons, update_mirror, ih]

/-- Unjudged windows alone change nothing (R63). -/
theorem CrossCheck.foldl_notJudged (x : CrossCheck) {l : List Verdict} (h : ∀ d ∈ l, d = .notJudged) :
    l.foldl CrossCheck.update x = x := by
  induction l with
  | nil => rfl
  | cons d l ih =>
    obtain ⟨rfl, hl⟩ := List.forall_mem_cons.mp h
    exact ih hl

/-- A flag that is set stays so while fewer than eight agreed windows come, counted with the streak (R63). -/
theorem CrossCheck.foldl_flag_kept {x : CrossCheck} {l : List Verdict} (hx : x.flag = true)
    (h : x.agreement + l.count .agreed < 8) : (l.foldl CrossCheck.update x).flag = true := by
  induction l generalizing x with
  | nil => exact hx
  | cons d l ih =>
    cases d with
    | notJudged => exact ih (x := x) hx (by rwa [List.count_cons_of_ne (by decide)] at h)
    | outvoted =>
      rw [List.count_cons_of_ne (by decide)] at h
      rw [List.foldl_cons, update_outvoted]
      exact ih (Bool.or_eq_true_iff.mpr (.inl hx)) (by dsimp only; omega)
    | agreed =>
      rw [List.count_cons_self] at h
      rw [List.foldl_cons, update_agreed]
      have hshort : ¬ 8 ≤ x.agreement + 1 := by omega
      exact ih (by simp [hx, hshort]) (by dsimp only; omega)

/-- The eighth outvoted window of a streak sets the flag, with any number of unjudged windows among them and
after it (R63). -/
theorem CrossCheck.foldl_flag_set {x : CrossCheck} {l : List Verdict} (hl : ∀ d ∈ l, d ≠ .agreed)
    (hpos : 0 < l.count .outvoted) (h : 8 ≤ x.outvoted + l.count .outvoted) :
    (l.foldl CrossCheck.update x).flag = true := by
  induction l generalizing x with
  | nil => exact absurd hpos (lt_irrefl 0)
  | cons d l ih =>
    obtain ⟨hd, htail⟩ := List.forall_mem_cons.mp hl
    cases d with
    | agreed => exact absurd rfl hd
    | notJudged =>
      rw [List.count_cons_of_ne (by decide)] at hpos h
      exact ih (x := x) htail hpos h
    | outvoted =>
      rw [List.count_cons_self] at h
      rw [List.foldl_cons, update_outvoted]
      by_cases hmore : 0 < l.count .outvoted
      · exact ih htail hmore (by dsimp only; omega)
      · have hlast : 8 ≤ x.outvoted + 1 := by omega
        have hnone : l.count .agreed = 0 := List.count_eq_zero.mpr fun hm => htail _ hm rfl
        exact foldl_flag_kept (by simp [hlast]) (by dsimp only; omega)

/-- Eight judged windows that were not outvoted clear the flag in the same way (R63). -/
theorem CrossCheck.foldl_flag_clear {x : CrossCheck} {l : List Verdict} (hl : ∀ d ∈ l, d ≠ .outvoted)
    (h : 8 ≤ l.count .agreed) : (l.foldl CrossCheck.update x).flag = false := by
  have hcount : (l.map Verdict.mirror).count .outvoted = l.count .agreed :=
    List.count_map_of_injective l _ Verdict.mirror_involutive.injective .agreed
  have hset : ((l.map Verdict.mirror).foldl CrossCheck.update x.mirror).flag = true := by
    refine foldl_flag_set (List.forall_mem_map.mpr fun d hd hm => ?_) (by omega) (by omega)
    exact hl d hd (Verdict.mirror_involutive.injective (a₂ := .outvoted) hm)
  rw [foldl_mirror] at hset
  simpa [CrossCheck.mirror] using hset

/-- Settles O30: the streaks move by the majority of the peers that judge the run, and over a row of outcomes
the flag follows the streak that is not broken. -/
theorem crossCheckAtCompletion : Obligations.CrossCheckAtCompletion := by
  refine ⟨fun s r v hr hv hcopy hstate => ?_, fun x l =>
    ⟨fun hl h => CrossCheck.foldl_flag_set hl (by omega) (by omega), CrossCheck.foldl_flag_clear,
      CrossCheck.foldl_notJudged x, fun hx h hflag => CrossCheck.foldl_flag_kept hflag (by omega)⟩⟩
  intro fresh active own against judged x
  obtain ⟨t, ht, hxcheck⟩ := runCompletion_xcheck hr hv hcopy hstate
  have hactive : freshActive s.peers.view = active := freshActive_eq _
  have hagainst : disagreeing v.tx r.number s.history s.peers.view = against := by
    rw [disagreeing, hactive]
    rfl
  have hjudged : crossChecks r.number s.history s.peers.view = judged := by
    rw [crossChecks, hactive]
    rfl
  rw [CrossCheck.update_judge, hjudged, hactive, hagainst] at hxcheck
  exact ⟨t, ht, hxcheck⟩

end Sys2Proof.Machine
end

section
/-! The correction of a run and its plan-slot write, at the completion. -/

namespace Sys2Proof.Machine

open Sys2Proof

/-! ## Shortfall and step -/

/-- A part of the shortfall is its exact sum, saturated once (R66). -/
theorem toInt_shortfallPart (d e : Frac) (peers : List ViewRecord) (f : ViewRecord → Frac) :
    (shortfallPart d e (peers.map f)).toInt
      = max (-8388608) (min (d.toInt - e.toInt - (peers.map fun w => (f w).toInt).sum) 8388607) := by
  rw [shortfallPart, toInt_satFrac, List.map_map]
  rfl

/-- The step of a part: the shortfall divided by a power of two, toward zero; gain code 0 gives none (R70). -/
theorem correctionStep_eq (gain : Nat) (x : Frac) :
    correctionStep gain x = if gain = 0 then 0 else x.toInt.tdiv (2 ^ (5 - gain)) := by
  simp [correctionStep]

/-- A new part of an unfrozen run, from the records and the peers (R66, R70). -/
theorem toInt_correctPart_shortfallPart {v : Setup} (h : v.cmax ≤ 2097152) (c d e : Frac)
    (peers : List ViewRecord) (f : ViewRecord → Frac) :
    (correctPart v c (shortfallPart d e (peers.map f))).toInt
      = max (-(v.cmax : Int)) (min (c.toInt
          + if v.gain = 0 then 0 else
            (max (-8388608) (min (d.toInt - e.toInt - (peers.map fun w => (f w).toInt).sum) 8388607)).tdiv
              (2 ^ (5 - v.gain))) v.cmax) := by
  rw [toInt_correctPart h, correctionStep_eq, toInt_shortfallPart]
  rfl

/-- Settles O31: the integrator is that of its update where the station stays, held or moved by the freeze
decision, and at rest where the station enters or leaves ACTIVE. -/
theorem correctionAtCompletion : Obligations.CorrectionAtCompletion := by
  intro s t r v hr hv hl hs h rec3 rec1 counted frozen part
  obtain ⟨-, -, -, -, -, -, hcmax, -⟩ := hs.1 v hv
  have hcorr := s.completeRun_corr v r
  rw [← runCompletion_live hr hv hl h] at hcorr
  have hfrozen : correctionFrozen r.number t.sync.lock s.history s.peers.view s.corr = true ↔ frozen := by
    refine (correctionFrozen_iff ..).trans ?_
    simp only [frozen, counted, List.mem_filter, and_assoc]
    rfl
  refine ⟨fun hstay => ?_, fun hmove => hcorr.trans (settleCorrection_of_move hmove _)⟩
  rw [settleCorrection_of_stay hstay] at hcorr
  rw [hcorr]
  have hnext := nextCorrection_cases v r.number t.sync.lock s.history s.peers.view s.corr
  refine ⟨fun hf => ?_, fun hf a b ha hb => ?_, rfl⟩
  · obtain ⟨-, e⟩ | ⟨hn, -⟩ := hnext
    · exact e
    · exact nomatch hn.symm.trans (hfrozen.mpr hf)
  · obtain ⟨hn, -⟩ | ⟨-, a', b', ha', hb', e⟩ := hnext
    · exact absurd (hfrozen.mp hn) hf
    · obtain rfl : a = a' := Option.some.inj (ha.symm.trans ha')
      obtain rfl : b = b' := Option.some.inj (hb.symm.trans hb')
      have hpart := toInt_correctPart_shortfallPart (v := v) hcmax
      rw [Correction.update, e]
      exact ⟨hpart .., hpart .., hpart ..⟩

/-! ## Limit and plan-slot write -/

/-- A raw reference within the limit is not scaled (R81). -/
theorem limitTriple_of_le {x : Triple} {n : Nat} (h : measure x ≤ n) : (limitTriple x n).1 = x := by
  rw [limitTriple, if_pos h]

theorem limitTriple_of_no_limit {x : Triple} (h : 0 < measure x) : (limitTriple x 0).1 = ⟨0, 0, 0⟩ := by
  rw [limitTriple, if_neg (by omega), if_pos rfl]
  rfl

/-- A raw reference past the limit is scaled by L over its measure, a quotient below 1 that is not held
(R46, R81). -/
theorem limitTriple_of_lt {x : Triple} {n : Nat} (h : n < measure x) (hn : 0 < n) :
    (limitTriple x n).1 = scaleTriple x (n * 65536 / measure x) := by
  rw [limitTriple, if_neg (by omega), if_neg (by omega), divide16_of_lt h]

/-- The share stage hands on a limited triple exactly where the window is usable (R79, R81, R83). -/
theorem shareStage_limited (u : Bool) (d c : Triple) (q n : Nat) :
    (shareStage u d c q n).1
      = if u then some (limitTriple (scaleTriple (groupCommand d c) q) n).1 else none := by
  cases u <;> rfl

/-- A write puts the triple at the position after the write index and touches no other slot (R134). -/
theorem PlanRing.write_effect (r : PlanRing) (n : Num) (mode : PlanMode) (x : Triple) :
    (r.write n mode x).writeIndex = r.writeIndex + 1 ∧ (r.write n mode x).latest = some x
      ∧ ∀ j, (r.write n mode x).slot j
        = if j = r.writeIndex + 1 then .pending ⟨n, mode, x⟩ else r.slot j :=
  ⟨rfl, rfl, fun j => r.slot_setSlot _ j _⟩

section
variable {b a : StationState} {counted : Bool} (k : Num) (x : Option Triple) (r : PlanRing)

/-- The way out of ACTIVE writes a FADE of the latest triple, where there is one (R88). -/
theorem planWrite_of_leave (hb : b = .active) (ha : a ≠ .active) :
    planWrite b a counted k x r = r.latest.elim r (r.write (k + 2) .fade) :=
  (if_pos ⟨hb, ha⟩).trans (by cases r.latest <;> rfl)

/-- A counted run that ends in ACTIVE writes its limited triple, where it has one (R87). -/
theorem planWrite_of_counted (ha : a = .active) (hc : counted = true) :
    planWrite b a counted k x r = x.elim r (r.write (k + 2) .normal) :=
  (if_neg fun h => h.2 ha).trans ((if_pos ⟨ha, hc⟩).trans (by cases x <;> rfl))

/-- A run that was not counted writes nothing, unless the station leaves ACTIVE (R87). -/
theorem planWrite_of_uncounted (h : ¬(b = .active ∧ a ≠ .active)) (hc : counted = false) :
    planWrite b a counted k x r = r :=
  (if_neg h).trans (if_neg (by simp [hc]))

end

/-- Settles O35: the three kinds of plan-slot write, and for the counted one the three cases of the limit. -/
theorem planSlotWrite : Obligations.PlanSlotWrite := by
  intro s t r v hr hv hl h m l q raw written
  have ht := runCompletion_live hr hv hl h
  have hplan : t.plan = planWrite s.station.state t.station.state s.peers.view.ownCounted r.number
      (shareStage m.usable m.d (s.corr.update v r.number t.sync.lock s.history s.peers.view).c q l).1
      s.plan := by rw [ht]; rfl
  have hwritten : ∀ mode x, t.plan = s.plan.write (r.number + 2) mode x → written mode x :=
    fun mode x e => by
      simp only [written, e]
      exact s.plan.write_effect _ _ _
  refine ⟨fun hb ha => ?_, fun hb ha hc => ?_, fun hn hc => ?_⟩
  · rw [planWrite_of_leave _ _ _ hb ha] at hplan
    exact ⟨fun hx => by rw [hplan, hx]; rfl, fun x hx => hwritten .fade x (by rw [hplan, hx]; rfl)⟩
  · have hcorr : t.corr = s.corr.update v r.number t.sync.lock s.history s.peers.view := by
      rw [ht, State.completeRun_corr, settleCorrection_of_stay (by rw [← ht]; exact iff_of_true hb ha)]
    rw [← hcorr, planWrite_of_counted _ _ _ ha hc, shareStage_limited] at hplan
    refine ⟨fun hu => by rw [hplan, hu]; rfl, fun hu => ?_⟩
    have hlimited : t.plan = s.plan.write (r.number + 2) .normal (limitTriple raw l).1 := by
      rw [hplan, hu]
      rfl
    refine ⟨fun hle => ?_, fun hlt h0 => ?_, fun hlt hpos => ?_⟩
    · exact hwritten _ _ (limitTriple_of_le hle ▸ hlimited)
    · rw [h0] at hlt hlimited
      exact hwritten _ _ (limitTriple_of_no_limit hlt ▸ hlimited)
    · exact hwritten _ _ (limitTriple_of_lt hlt hpos ▸ hlimited)
  · exact hplan.trans (planWrite_of_uncounted _ _ _ hn hc)

end Sys2Proof.Machine
end

section
/-! Sharing the demand: the share factors of a group with one view, the measure of a limited triple, and the bound
of the largest limit in the ring and the streamer. -/

namespace Sys2Proof.Machine

open Sys2Proof

variable {s t : State}

/-! ## The share factor -/

theorem divide16_mul_le (a b : Nat) : divide16 a b * b ≤ a * 65536 :=
  (Nat.mul_le_mul_right b (min_le_right _ _)).trans (Nat.div_mul_le_self _ _)

theorem divide16_eq_65535_iff (a : Nat) {b : Nat} (hb : 0 < b) :
    divide16 a b = 65535 ↔ 65535 * b ≤ a * 65536 :=
  min_eq_left_iff.trans (Nat.le_div_iff_mul_le hb)

/-- A counted station adds its told headroom to those of the counted records (R77). -/
theorem headroomSum_of_counted {w : View} (h : w.ownCounted = true) (told : BitVec 16) :
    headroomSum w told = ((countedRecords w).map fun r => r.headroom.toNat).sum + told.toNat := by
  rw [headroomSum, if_pos h]

theorem shareFactor_of_counted {w : View} {told : BitVec 16} (h : w.ownCounted = true) (h0 : told ≠ 0#16) :
    shareFactor w told = divide16 told.toNat (headroomSum w told) := by
  rw [shareFactor, if_pos (Bool.and_eq_true_iff.mpr ⟨h, decide_eq_true h0⟩)]

theorem shareFactor_of_uncounted {w : View} (h : w.ownCounted = false) (told : BitVec 16) :
    shareFactor w told = 0 := by simp [shareFactor, h]

theorem shareFactor_zero (w : View) : shareFactor w 0 = 0 := by simp [shareFactor]

theorem shareFactor_le (w : View) (told : BitVec 16) : shareFactor w told ≤ 65535 := by
  unfold shareFactor
  split
  · exact min_le_left _ _
  · exact Nat.zero_le _

/-- Factors under one headroom sum share out no more than the headrooms do (R78). -/
theorem sum_divide16_mul_le (b : Nat) (hs : List Nat) :
    (hs.map fun h => divide16 h b).sum * b ≤ hs.sum * 65536 := by
  induction hs with
  | nil => simp
  | cons h hs ih =>
    have hhead := divide16_mul_le h b
    simp only [List.map_cons, List.sum_cons, Nat.add_mul]
    omega

/-- A factor that is not held loses less than one step to its floor (R46, R78). -/
theorem sum_add_length_le_divide16_mul {b : Nat} {hs : List Nat} (hlt : ∀ h ∈ hs, h < b) :
    hs.sum * 65536 + hs.length ≤ ((hs.map fun h => divide16 h b).sum + hs.length) * b := by
  induction hs with
  | nil => simp
  | cons h hs ih =>
    obtain ⟨hb, htail⟩ := List.forall_mem_cons.mp hlt
    have hhead : h * 65536 < (divide16 h b + 1) * b :=
      divide16_of_lt hb ▸ lt_succ_div_mul _ (Nat.zero_lt_of_lt hb)
    simp only [List.map_cons, List.sum_cons, List.length_cons]
    calc (h + hs.sum) * 65536 + (hs.length + 1)
        = (h * 65536 + 1) + (hs.sum * 65536 + hs.length) := by ring
      _ ≤ (divide16 h b + 1) * b + ((hs.map fun h => divide16 h b).sum + hs.length) * b :=
        Nat.add_le_add hhead (ih htail)
      _ = (divide16 h b + (hs.map fun h => divide16 h b).sum + (hs.length + 1)) * b := by ring

/-- A group's factors sum to 65,536 less at most one step for each station but one: where one station holds
all the headroom its factor is held, and otherwise only the floors lose (R78). -/
theorem sum_divide16_bounds {hs : List Nat} (hlen : 2 ≤ hs.length) (hpos : 0 < hs.sum) :
    65536 < (hs.map fun h => divide16 h hs.sum).sum + hs.length
      ∧ (hs.map fun h => divide16 h hs.sum).sum ≤ 65536 := by
  refine ⟨?_, Nat.le_of_mul_le_mul_right
    ((sum_divide16_mul_le hs.sum hs).trans_eq (Nat.mul_comm _ _)) hpos⟩
  by_cases hall : ∃ h ∈ hs, hs.sum ≤ h
  · obtain ⟨h, hmem, hle⟩ := hall
    have hone := List.le_sum_of_mem (List.mem_map_of_mem (f := fun h => divide16 h hs.sum) hmem)
    rw [divide16_of_le hpos hle] at hone
    omega
  · have hfloors := sum_add_length_le_divide16_mul (b := hs.sum) (hs := hs) (by simpa using hall)
    refine Nat.lt_of_mul_lt_mul_right (a := hs.sum) ?_
    omega

/-- Settles O33: the factor is divide-16 of the told headroom by the sum, and over a group the floors lose
less than one step each. -/
theorem shareFactorRule : Obligations.ShareFactorRule := by
  refine ⟨fun w told => ?_, fun hs _ hpos => ?_⟩
  · intro total
    refine ⟨shareFactor_le w told, fun h => shareFactor_of_uncounted h told, ?_, fun hc h0 => ?_⟩
    · rintro rfl
      exact shareFactor_zero w
    · have hle : told.toNat ≤ total := Nat.le_add_left _ _
      have htold : told.toNat ≠ 0 := fun h => h0 (BitVec.eq_of_toNat_eq h)
      have hfactor : shareFactor w told = divide16 told.toNat total := by
        rw [shareFactor_of_counted hc h0, headroomSum_of_counted hc]
        rfl
      rw [hfactor]
      exact ⟨hle, rfl, divide16_eq_65535_iff _ (by omega)⟩
  · intro qs
    refine ⟨fun hone => ?_, fun hlen => ?_⟩
    · obtain ⟨h, rfl⟩ := List.length_eq_one_iff.mp hone
      simpa [qs] using divide16_of_le hpos (by simp)
    · obtain ⟨hlow, hhigh⟩ : 65536 < qs + hs.length ∧ qs ≤ 65536 := sum_divide16_bounds hlen hpos
      exact ⟨by omega, hhigh⟩

/-! ## The limited triple -/

/-- Scaling by a factor takes the larger part to the larger and the smaller to the smaller (R45). -/
theorem measure_scaleTriple (x : Triple) {k : Nat} (hk : k ≤ 65535) :
    measure (scaleTriple x k) = x.q.toInt.natAbs * k / 65536
      + (max x.re.toInt.natAbs x.im.toInt.natAbs * k / 65536
        + min x.re.toInt.natAbs x.im.toInt.natAbs * k / 65536 / 2) := by
  have hmono : Monotone fun n : Nat => n * k / 65536 := fun _ _ h =>
    Nat.div_le_div_right (Nat.mul_le_mul_right k h)
  simp only [measure, mnorm, scaleTriple, natAbs_scale _ hk]
  rw [hmono.map_max, hmono.map_min]

/-- A triple scaled by `k` has a measure of at most `n` where `k` times its measure does not pass `n`: the
half that the M-norm of the source drops is worth less than half a code after the scaling (R47, R82). -/
theorem measure_scaleTriple_le {x : Triple} {k n : Nat} (hk : k ≤ 65535) (h : k * measure x ≤ n * 65536) :
    measure (scaleTriple x k) ≤ n := by
  rw [measure_scaleTriple x hk]
  unfold measure mnorm at h
  generalize x.q.toInt.natAbs = a at *
  generalize max x.re.toInt.natAbs x.im.toInt.natAbs = b at *
  generalize min x.re.toInt.natAbs x.im.toInt.natAbs = c at *
  have hhalf : c * k ≤ (2 * (c / 2) + 1) * k := Nat.mul_le_mul_right k (by omega)
  have hsum : a * k + b * k + c / 2 * k ≤ n * 65536 := by
    calc a * k + b * k + c / 2 * k = k * (a + (b + c / 2)) := by ring
      _ ≤ n * 65536 := h
  rw [Nat.add_mul, Nat.mul_assoc] at hhalf
  omega

/-- The limited triple of any raw reference meets the limit (R81, R82). -/
theorem measure_limitTriple_le (x : Triple) (n : Nat) : measure (limitTriple x n).1 ≤ n := by
  by_cases hle : measure x ≤ n
  · rwa [limitTriple_of_le hle]
  · obtain rfl | hn := Nat.eq_zero_or_pos n
    · rw [limitTriple_of_no_limit (by omega)]
      decide
    · have hlt : n < measure x := by omega
      have hk : n * 65536 / measure x ≤ 65535 := divide16_of_lt hlt ▸ min_le_left _ _
      rw [limitTriple_of_lt hlt hn]
      exact measure_scaleTriple_le hk (Nat.div_mul_le_self _ _)

/-! ## The NORMAL slot of a completion -/

/-- The share stage hands on nothing but the limited triple of its raw reference (R79, R81). -/
theorem eq_limitTriple_of_shareStage {u : Bool} {d c x : Triple} {q n : Nat}
    (h : (shareStage u d c q n).1 = some x) :
    x = (limitTriple (rawReference (groupCommand d c) q) n).1 := by
  cases u with
  | false => cases h
  | true => exact (Option.some.inj h).symm

/-- A PENDING slot that a write did not find there is the one it wrote (R134). -/
theorem PlanRing.pending_of_write {r : PlanRing} {n : Num} {mode : PlanMode} {x : Triple} {i : Fin 4}
    {p : Plan} (h : (r.write n mode x).slot i = .pending p) (hold : r.slot i ≠ .pending p) :
    p = ⟨n, mode, x⟩ := by
  obtain ⟨-, -, hslot⟩ := r.write_effect n mode x
  rw [hslot i] at h
  by_cases hi : i = r.writeIndex + 1
  · rw [if_pos hi] at h
    exact (Slot.pending.inj h).symm
  · rw [if_neg hi] at h
    exact absurd h hold

/-- A NORMAL slot newly written holds the limited triple (R87). -/
theorem limited_of_planWrite {b a : StationState} {counted : Bool} {k : Num} {limited : Option Triple}
    {r : PlanRing} {i : Fin 4} {p : Plan} (h : (planWrite b a counted k limited r).slot i = .pending p)
    (hold : r.slot i ≠ .pending p) (hmode : p.mode = .normal) : limited = some p.triple := by
  obtain ⟨-, -, x, -, e⟩ | ⟨-, -, x, hx, e⟩ | e := planWrite_cases b a counted k limited r <;> rw [e] at h
  · rw [PlanRing.pending_of_write h hold] at hmode
    cases hmode
  · rw [PlanRing.pending_of_write h hold]
    exact hx
  · exact absurd h hold

/-- A run completion takes the seven steps of R39 or leaves the ring (R39, R173). -/
theorem runCompletion_plan {r : Run} {v : Setup} (hr : s.engine.run = some r)
    (hv : s.station.setup = some v) (h : exec .runCompletion s = .next t) :
    t = s.completeRun v r ∨ t.plan = s.plan := by
  cases hl : s.station.state.live with
  | true => exact .inl (runCompletion_live hr hv hl h)
  | false =>
    obtain ⟨r', v', -, -, -, ⟨hl', -⟩ | ⟨-, rfl⟩ | ⟨-, -, rfl⟩⟩ | ⟨-, rfl⟩ := runCompletion_next h
    · exact nomatch hl.symm.trans hl'
    all_goals exact .inr rfl

/-- Settles O34: a NORMAL slot that a completion writes anew carries the limited triple of its run, and scaling
to the limit meets it. -/
theorem normalSlotWithinLimit : Obligations.NormalSlotWithinLimit := by
  refine ⟨measure_limitTriple_le, fun s t r v i p hr hv h hp hold hmode => ?_⟩
  obtain rfl | hplan := runCompletion_plan hr hv h
  · have htriple := eq_limitTriple_of_shareStage (limited_of_planWrite hp hold hmode)
    exact ⟨htriple, htriple ▸ measure_limitTriple_le _ _⟩
  · exact absurd (hplan ▸ hp) hold

/-! ## The bound of the largest limit -/

/-- The triple of a slot that is not EMPTY keeps the bound of the largest limit (R82). -/
def Slot.Bounded : Slot → Prop
  | .empty => True
  | .pending p | .playing p => TripleBounded p.triple

/-- Every triple of the ring keeps the bound, that of the latest-write record too (R82, R88). -/
def PlanRing.Bounded (r : PlanRing) : Prop :=
  (∀ i, (r.slot i).Bounded) ∧ ∀ x, r.latest = some x → TripleBounded x

/-- The source triple of the streamer, where it has one, keeps the bound (R135, R144). -/
def Play.Bounded (p : Play) : Prop := ∀ x, p.source = some x → TripleBounded x

theorem Slot.bounded_iff {x : Slot} :
    x.Bounded ↔ ∀ p, x = .pending p ∨ x = .playing p → TripleBounded p.triple := by
  cases x <;> simp [Slot.Bounded]

theorem planBounded_iff : PlanBounded s ↔ s.plan.Bounded ∧ s.streamer.play.Bounded := by
  simp only [PlanBounded, PlanRing.Bounded, Play.Bounded, Slot.bounded_iff, and_assoc]

section
variable {r : PlanRing} {p : Play} {x : Triple}

theorem PlanRing.Bounded.setSlot (h : r.Bounded) {y : Slot} (hy : y.Bounded) (i : Fin 4) :
    (r.setSlot i y).Bounded := by
  refine ⟨fun j => ?_, by simpa using h.2⟩
  rw [PlanRing.slot_setSlot]
  split
  · exact hy
  · exact h.1 j

theorem PlanRing.Bounded.mapSlots (h : r.Bounded) {f : Slot → Slot} (hf : ∀ y, y.Bounded → (f y).Bounded) :
    (r.mapSlots f).Bounded := by
  refine ⟨fun j => ?_, h.2⟩
  rw [PlanRing.slot_mapSlots]
  exact hf _ (h.1 j)

theorem PlanRing.Bounded.rest (h : r.Bounded) : r.rest.Bounded :=
  h.mapSlots fun y hy => by
    cases y with
    | empty | playing => trivial
    | pending => exact hy

theorem PlanRing.Bounded.clear (h : r.Bounded) : r.clear.Bounded := h.mapSlots fun _ _ => trivial

theorem PlanRing.Bounded.write (h : r.Bounded) (hx : TripleBounded x) (n : Num) (mode : PlanMode) :
    (r.write n mode x).Bounded :=
  ⟨(h.setSlot (y := .pending ⟨n, mode, x⟩) hx _).1, fun _ he => Option.some.inj he ▸ hx⟩

theorem PlanRing.Bounded.promote (h : r.Bounded) {q : Plan} (hq : TripleBounded q.triple) (i : Fin 4) :
    (r.promote i q).Bounded := h.rest.setSlot (y := .playing q) hq i

theorem PlanRing.Bounded.discard (h : r.Bounded) (i : Fin 4) : (r.discard i).Bounded :=
  h.setSlot (y := .empty) trivial i

/-- The slot that a boundary finds keeps the bound (R136). -/
theorem PlanRing.Bounded.find (h : r.Bounded) {n : Num} {i : Fin 4} {q : Plan}
    (hf : r.find n = some (i, q)) : TripleBounded q.triple :=
  Slot.bounded_iff.mp (h.1 i) q (.inl (PlanRing.find_some hf).1)

theorem Play.bounded_idle : Play.idle.Bounded := nofun

/-- A boundary that finds a NORMAL slot makes its triple the source (R136). -/
theorem Play.source_onNormal (p : Play) (x : Triple) : (p.onNormal x).source = some x := by
  cases p <;> rfl

/-- A boundary that finds no slot keeps the source or ends it (R136). -/
theorem Play.source_onNone (p : Play) : p.onNone.source = p.source ∨ p.onNone.source = none := by
  cases p with
  | idle | fading => exact .inr rfl
  | ramping | playing | holding => exact .inl rfl

theorem Play.bounded_of_source (hs : p.source = some x) (hx : TripleBounded x) : p.Bounded :=
  fun _ he => Option.some.inj (hs.symm.trans he) ▸ hx

theorem Play.Bounded.onNone (h : p.Bounded) : p.onNone.Bounded := by
  intro x hx
  obtain e | e := p.source_onNone
  · exact h x (e.symm.trans hx)
  · exact nomatch e.symm.trans hx

/-- A boundary moves triples of the ring and the streamer only (R136 to R138). -/
theorem PlanRing.Bounded.boundary (h : r.Bounded) {y : Streamer} (hy : y.play.Bounded) (n : Num) :
    (boundary n r y).1.Bounded ∧ (boundary n r y).2.play.Bounded := by
  obtain ⟨i, q, hf, -, e⟩ | ⟨i, q, hf, -, -, e⟩ | ⟨i, q, -, -, -, e⟩ | ⟨-, -, e⟩ | ⟨-, -, e⟩ :=
    boundary_cases n r y <;> rw [e]
  · exact ⟨h.promote (h.find hf) i, Play.bounded_of_source (Play.source_onNormal _ _) (h.find hf)⟩
  · exact ⟨h.promote (h.find hf) i, Play.bounded_of_source rfl (h.find hf)⟩
  · exact ⟨h.rest.discard i, Play.bounded_idle⟩
  · exact ⟨h, hy.onNone⟩
  · exact ⟨h.rest, Play.bounded_idle⟩

/-- A plan-slot write puts the latest triple or the limited one into the ring (R87, R88). -/
theorem PlanRing.Bounded.planWrite (h : r.Bounded) {limited : Option Triple}
    (hx : ∀ x, limited = some x → TripleBounded x) (b a : StationState) (counted : Bool) (k : Num) :
    (planWrite b a counted k limited r).Bounded := by
  obtain ⟨-, -, x, hl, e⟩ | ⟨-, -, x, hl, e⟩ | e := planWrite_cases b a counted k limited r <;> rw [e]
  · exact h.write (h.2 x hl) _ _
  · exact h.write (hx x hl) _ _
  · exact h

end

/-! ## Every step keeps the bound -/

/-- The limit of a run is at most that of the largest Imax and the largest capability (R80). -/
theorem ownLimit_le {imax : Nat} (h : imax ≤ 4194304) (cap : Byte) : ownLimit imax cap ≤ 4177920 := by
  have hprod : imax * cap.toNat ≤ 4194304 * 255 := Nat.mul_le_mul h (by omega)
  unfold ownLimit
  omega

/-- The limited triple of a run meets the limit of an Imax in range (R80, R82). -/
theorem tripleBounded_limited {v : Setup} (hv : v.imax ≤ 4194304) (r : Run) {x : Triple}
    (h : (handover v r s).limited = some x) : TripleBounded x := by
  rw [eq_limitTriple_of_shareStage h]
  exact (measure_limitTriple_le _ _).trans (ownLimit_le hv _)

theorem PlanBounded.of_eq (h : PlanBounded s) (hp : t.plan = s.plan) (hs : t.streamer = s.streamer) :
    PlanBounded t := by
  unfold PlanBounded
  rw [hp, hs]
  exact h

/-- An immediate stop leaves no triple but the latest written (R139). -/
theorem PlanBounded.stopped (h : PlanBounded s) (hp : t.plan = s.plan.clear)
    (hs : t.streamer.play = .idle) : PlanBounded t := by
  rw [planBounded_iff, hp, hs]
  exact ⟨(planBounded_iff.mp h).1.clear, Play.bounded_idle⟩

theorem resets_planBounded {c : Instr} (h : Resets s c t) : PlanBounded t := by
  have hring : PlanRing.reset.Bounded := ⟨fun i => by fin_cases i <;> trivial, nofun⟩
  cases h <;> exact planBounded_iff.mpr ⟨hring, Play.bounded_idle⟩

/-- A close moves triples between ring and streamer, a completion writes one that meets the limit of its run,
and the stops only empty (R82, R88, R136, R139). -/
theorem PlanBounded.acts (h : PlanBounded s) (hsetup : SetupSound s) (a : Acts s t) : PlanBounded t := by
  obtain ⟨hring, hplay⟩ := planBounded_iff.mp h
  cases a with
  | nothing | off | listen | scan | deadline | runInFault | line | sent => exact h
  | copied | received | merged => exact h.of_eq (by simp) (by simp)
  | silence | badImage | conflict => exact h.stopped rfl rfl
  | expiry codes =>
    cases hd : s.link.declares with
    | false => rw [State.expire_eq s codes hd]; exact h
    | true => rw [State.expire_declared s codes hd]; exact h.stopped rfl rfl
  | status word =>
    unfold State.takeStatus
    split
    · exact h.stopped rfl rfl
    · exact h
  | close sc v check quench => exact planBounded_iff.mpr (hring.boundary hplay _)
  | run r v _ hv =>
    obtain ⟨-, -, -, himax, -⟩ := hsetup.1 v hv
    exact planBounded_iff.mpr
      ⟨hring.planWrite (fun _ => tripleBounded_limited himax r) _ _ _ _, hplay⟩

/-- Settles O52, along the kinds of commands, with the setup values in range. -/
theorem planBoundedKept : Obligations.PlanBoundedKept := by
  intro s t
  exact kept_of_acts (P := fun s => SetupSound s ∧ PlanBounded s) (fun _ _ h => h)
    (fun _ _ _ h => ⟨resets_setupSound h, resets_planBounded h⟩)
    (fun _ _ h a => ⟨h.1.acts a, h.2.acts h.1 a⟩)

end Sys2Proof.Machine
end

section
/-! The entries of the peer table: the merge alone writes one, under another station's id, and every other
command at most takes some away. -/

namespace Sys2Proof.Machine

open Sys2Proof

variable {s t : State} {l : List PeerEntry}

/-! ## A write into the list -/

/-- The order of the table: strictly rising ids, so that an id has one entry at most (R93). -/
def Rising (l : List PeerEntry) : Prop := l.Pairwise fun a b => a.id < b.id

theorem rising_writeEntry (e : PeerEntry) (h : Rising l) : Rising (writeEntry e l) := by
  induction l with
  | nil => exact List.pairwise_singleton _ e
  | cons x xs ih =>
    obtain ⟨hx, hxs⟩ := List.pairwise_cons.mp h
    unfold writeEntry
    split
    · next hlt =>
      refine List.pairwise_cons.mpr ⟨fun a ha => ?_, h⟩
      rcases List.mem_cons.mp ha with rfl | ha
      · exact hlt
      · exact hlt.trans (hx a ha)
    · split
      · next heq => exact List.pairwise_cons.mpr ⟨fun a ha => heq ▸ hx a ha, hxs⟩
      · next hnlt hne =>
        refine List.pairwise_cons.mpr ⟨fun a ha => ?_, ih hxs⟩
        rcases mem_writeEntry ha with rfl | ha
        · exact lt_of_le_of_ne (not_lt.mp hnlt) (Ne.symm hne)
        · exact hx a ha

/-- The entry of a frame stands under the id the frame names (R96). -/
theorem frameEntry_id {f : Received} {e : PeerEntry} (h : frameEntry f = some e) : e.id = bodyId f.body := by
  obtain ⟨a, -, rfl⟩ := Option.map_eq_some_iff.mp h
  rfl

/-! ## What a command does to the entries -/

theorem resets_entries {c : Instr} (h : Resets s c t) : t.peers.entries = [] := by cases h <;> rfl

theorem entries_scanCompletion {check : Code} {quench : Bool}
    (h : exec (.scanCompletion check quench) s = .next t) :
    t.peers.entries.Sublist s.peers.entries := by
  obtain ⟨sc, v, -, -, -, rfl⟩ | rfl := scanCompletion_next h
  · obtain ⟨-, e⟩ | ⟨-, e⟩ | ⟨-, -, e⟩ := afterScan_cases (s.recordScan sc check) v sc.index quench
      <;> rw [e]
    · exact .refl _
    · exact List.filter_sublist
    · exact .refl _
  · exact .refl _

/-- A merge alone brings an entry into the table; a close purges, a reset empties it (R96, R100, R109). -/
theorem entries_sublist {c : Instr} (hc : c ≠ .mergeCompletion) (h : exec c s = .next t) :
    t.peers.entries.Sublist s.peers.entries := by
  cases c with
  | mergeCompletion => exact absurd rfl hc
  | powerOn => rw [powerOn_next h]; exact List.nil_sublist _
  | lossOfSupplyGood => rw [lossOfSupplyGood_next h]; exact List.nil_sublist _
  | resetLineAssertion =>
    obtain ⟨-, rfl⟩ | rfl := resetLineAssertion_next h
    · exact List.nil_sublist _
    · exact .refl _
  | scanCompletion check quench => exact entries_scanCompletion h
  | endOfPowerOnWait high =>
    obtain ⟨-, -, rfl⟩ | rfl := endOfPowerOnWait_next h
    · obtain ⟨-, e⟩ | ⟨-, -, e⟩ | ⟨-, -, e⟩ := endWait_cases s high <;> rw [e]
    · exact .refl _
  | resetLineRelease => obtain ⟨-, -, -, ⟨-, rfl⟩ | ⟨-, rfl⟩⟩ | rfl := resetLineRelease_next h <;> exact .refl _
  | resetNReturnsHigh => obtain ⟨-, -, -, -, -, rfl⟩ | rfl := resetNReturnsHigh_next h <;> exact .refl _
  | setupReadCompletion image =>
    obtain ⟨-, v, -, rfl⟩ | ⟨-, -, rfl⟩ | rfl := setupReadCompletion_next h <;> exact .refl _
  | sampleTimerExpiry codes => obtain ⟨-, -, rfl⟩ | ⟨-, rfl⟩ := sampleTimerExpiry_next h <;> simp
  | moduleLinkSilence => obtain ⟨-, -, -, -, rfl⟩ | rfl := moduleLinkSilence_next h <;> exact .refl _
  | statusArrival bits word => obtain ⟨-, -, -, rfl⟩ | rfl := statusArrival_next h <;> simp
  | viewCopyCompletion => obtain ⟨w, -, rfl⟩ | rfl := viewCopyCompletion_next h <;> simp
  | runCompletion =>
    obtain ⟨r, v, -, -, -, ⟨-, -, rfl⟩ | ⟨-, rfl⟩ | ⟨-, -, rfl⟩⟩ | ⟨-, rfl⟩ := runCompletion_next h
      <;> exact .refl _
  | backoffExpiry => obtain ⟨-, -, rfl⟩ | rfl := backoffExpiry_next h <;> exact .refl _
  | clearCheckPass => obtain ⟨-, -, -, rfl⟩ | rfl := clearCheckPass_next h <;> exact .refl _
  | lineBusy => obtain ⟨-, rfl⟩ | rfl := lineBusy_next h <;> exact .refl _
  | lineIdle => obtain ⟨-, rfl⟩ | rfl := lineIdle_next h <;> exact .refl _
  | collision => obtain ⟨-, -, rfl⟩ | rfl := collision_next h <;> exact .refl _
  | transmissionCompletion =>
    obtain ⟨f, -, -, -, rfl⟩ | rfl := transmissionCompletion_next h <;> exact .refl _
  | startDelimiter n => obtain ⟨-, -, ⟨-, rfl⟩ | ⟨-, rfl⟩⟩ | rfl := startDelimiter_next h <;> exact .refl _
  | lengthByteCheck len => obtain ⟨i, -, -, rfl⟩ | rfl := lengthByteCheck_next h <;> exact .refl _
  | frameReceptionCompletion body crc =>
    obtain ⟨v, i, -, -, -, rfl⟩ | rfl := frameReceptionCompletion_next h <;> simp

/-- A merge writes at most one entry, under another id than the own one (R96, R106). -/
theorem entries_mergeCompletion (h : exec .mergeCompletion s = .next t) :
    t.peers.entries = s.peers.entries
      ∨ ∃ v e, t.station.setup = s.station.setup ∧ s.station.setup = some v ∧ e.id ≠ v.id
          ∧ t.peers.entries = writeEntry e s.peers.entries := by
  obtain ⟨i, v, f, -, hv, -, rfl⟩ | rfl := mergeCompletion_next h
  · obtain ⟨hid, e, he, ht⟩ | ⟨-, -, ht⟩ | ⟨-, -, ht⟩ | ⟨-, -, ht⟩ := finishMerge_cases s v i f <;> rw [ht]
    · exact .inr ⟨v, e, by simp [State.mergeEntry], hv, by rwa [frameEntry_id he], by simp [State.mergeEntry]⟩
    · exact .inl (by simp)
    · exact .inl rfl
    · exact .inl (by simp)
  · exact .inl rfl

/-! ## The own id -/

/-- An act changes the setup values at LISTEN entry only (R165). -/
theorem Acts.setup_cases (a : Acts s t) : t.station.setup = s.station.setup ∨ s.resting := by
  cases a with
  | listen _ _ _ hs => exact .inr (.inr hs)
  | run => exact .inl (Station.evaluate_setup ..)
  | expiry | status | copied | received | merged => exact .inl (by simp)
  | nothing | off | badImage | silence | scan | deadline | close | runInFault | line | sent | conflict =>
    exact .inl rfl

/-- No entry stands under the own id (R106). -/
def NoOwnEntry (s : State) : Prop := ∀ v, s.station.setup = some v → ∀ e ∈ s.peers.entries, e.id ≠ v.id

theorem peersSound_iff :
    PeersSound s ↔ Rising s.peers.entries ∧ NoOwnEntry s ∧ (s.resting → s.peers.entries = []) := Iff.rfl

/-- A command that writes no entry brings none under the own id: where that id is new, at LISTEN entry, the
table is empty (R109, R165). -/
theorem PeersSound.noOwnEntry_of_sublist (h : PeersSound s)
    (hsub : t.peers.entries.Sublist s.peers.entries) (a : Acts s t) : NoOwnEntry t := by
  obtain ⟨-, hown, hempty⟩ := peersSound_iff.mp h
  intro v hv e he
  obtain hsetup | hs := a.setup_cases
  · exact hown v (hsetup ▸ hv) e (hsub.subset he)
  · rw [hempty hs] at hsub
    simp [List.sublist_nil.mp hsub] at he

/-- With the entries at most fewer, the order stays and no own entry comes in. -/
theorem PeersSound.of_sublist (h : PeersSound s) (hsub : t.peers.entries.Sublist s.peers.entries)
    (a : Acts s t) : Rising t.peers.entries ∧ NoOwnEntry t :=
  ⟨List.Pairwise.sublist hsub h.1, h.noOwnEntry_of_sublist hsub a⟩

theorem PeersSound.of_mergeCompletion (h : PeersSound s) (hx : exec .mergeCompletion s = .next t)
    (a : Acts s t) : Rising t.peers.entries ∧ NoOwnEntry t := by
  obtain ⟨hrising, hown, -⟩ := peersSound_iff.mp h
  obtain he | ⟨v, e, hsetup, hv, hid, he⟩ := entries_mergeCompletion hx
  · exact h.of_sublist (he ▸ .refl _) a
  · refine ⟨he ▸ rising_writeEntry e hrising, fun w hw b hb => ?_⟩
    obtain rfl : v = w := Option.some.inj (hv.symm.trans (hsetup ▸ hw))
    rcases mem_writeEntry (he ▸ hb) with rfl | hb
    · exact hid
    · exact hown v hv b hb

theorem PeersSound.of_exec (hrests : RestsInOff s) (h : PeersSound s) {c : Instr}
    (hx : exec c s = .next t) : RestsInOff t ∧ PeersSound t := by
  obtain hr | a := exec_cases hx
  · have he := resets_entries hr
    exact ⟨resets_restsInOff hr, by simp [PeersSound, he]⟩
  · have hrests' := hrests.acts a
    have hempty : t.resting → t.peers.entries = [] := fun ht => by
      obtain ⟨-, -, -, -, -, -, -, hpeers, -⟩ := hrests' ht
      rw [hpeers]
      rfl
    have hkept : Rising t.peers.entries ∧ NoOwnEntry t := by
      by_cases hc : c = .mergeCompletion
      · exact h.of_mergeCompletion (hc ▸ hx) a
      · exact h.of_sublist (entries_sublist hc hx) a
    exact ⟨hrests', peersSound_iff.mpr ⟨hkept.1, hkept.2, hempty⟩⟩

/-- Settles O39: a merge writes into its place an entry of another station, every other command writes none,
and the own id is taken into use over an empty table. -/
theorem peersSoundKept : Obligations.PeersSoundKept := by
  intro s t
  exact kept_of_exec (P := fun s => RestsInOff s ∧ PeersSound s) (fun _ _ h => h)
    (fun _ _ _ h hx => h.2.of_exec h.1 hx)

end Sys2Proof.Machine
end

section
/-! The table takes its next frame: at the end of a merge, at the end of a copy, and at the reception of a frame
(R95). -/

namespace Sys2Proof.Machine

open Sys2Proof

variable {s t : State} {v : Setup} {i : RxId} {f : Received}

/-! ## The start of a merge -/

theorem LineController.setBank_eq (l : LineController) (i : RxId) (b : RxBank) :
    l.setBank i b = { l with bankA := (l.setBank i b).bankA, bankB := (l.setBank i b).bankB } := by
  cases i <;> rfl

theorem LineController.beginMerge_of_full {l : LineController} (h : l.bank i = .full f) :
    l.beginMerge i = l.setBank i (.merging f) := by simp [LineController.beginMerge, h]

/-- A table at work, or one with no frame waiting, starts no merge. -/
theorem State.startMerge_eq_self (h : s.line.order = [] ∨ s.peers.work ≠ .idle) : s.startMerge = s := by
  obtain e | ⟨i, rest, hw, ho, -⟩ := s.startMerge_cases
  · exact e
  · simp [hw, ho] at h

theorem State.startMerge_eq {rest : List RxId} (hw : s.peers.work = .idle) (ho : s.line.order = i :: rest)
    (hb : s.line.bank i = .full f) :
    s.startMerge =
      { s with peers := { s.peers with work := .merge i }, line := s.line.setBank i (.merging f) } := by
  simp [State.startMerge, hw, ho, LineController.beginMerge_of_full hb]

/-! ## The end of a merge -/

/-- What the end of the merge in bank `i` leaves, with the table `p` left by the frame and idle: the bank is
FREE, its frame waits no longer, and the next waiting frame, where there is one, is taken; nothing else
changes (R95, R97). -/
structure MergeEnded (s t : State) (p : PeerTable) (i : RxId) : Prop where
  frame : t = { s with peers := t.peers, line := t.line }
  table : t.peers = { p with work := t.peers.work }
  freed : t.line.bank i = .free
  order : t.line.order = s.line.order.tail
  line : t.line = { s.line with bankA := t.line.bankA, bankB := t.line.bankB, order := t.line.order }
  last : s.line.order.tail = [] → t.peers.work = .idle ∧ t.line.bank i.other = s.line.bank i.other
  next : ∀ g, s.line.order.tail = [i.other] → s.line.bank i.other = .full g →
    t.peers.work = .merge i.other ∧ t.line.bank i.other = .merging g

theorem LineController.endMerge_order {l : LineController} (h : l.order.head? = some i) :
    (l.endMerge i).order = l.order.tail := by
  obtain ⟨rest, ho⟩ := List.head?_eq_some_iff.mp h
  simp [LineController.endMerge, ho]

theorem LineController.endMerge_bank (l : LineController) (i j : RxId) :
    (l.endMerge i).bank j = if j = i then .free else l.bank j := l.bank_setBank i j .free

/-- The start of a merge leaves a FREE bank alone. -/
theorem LineController.beginMerge_free {l : LineController} (h : l.bank i = .free) (j : RxId) :
    (l.beginMerge j).bank i = .free := by
  obtain ⟨f, hf, e⟩ | ⟨-, e⟩ := l.beginMerge_cases j <;> rw [e]
  · have hne : i ≠ j := by rintro rfl; simp [hf] at h
    simp [hne, h]
  · exact h

/-- The end of a merge and the start of the next touch the banks and the order alone. -/
theorem LineController.endMerge_beginMerge_eq (l : LineController) (i j : RxId) :
    (l.endMerge i).beginMerge j =
      { l with
        bankA := ((l.endMerge i).beginMerge j).bankA, bankB := ((l.endMerge i).beginMerge j).bankB
        order := (l.endMerge i).order } := by
  obtain ⟨b, e⟩ := (l.endMerge i).beginMerge_eq_setBank j
  rw [e]
  cases i <;> cases j <;> rfl

theorem mergeEnded_startMerge (ho : s.line.order.head? = some i) (p : PeerTable) (hp : p.work = .idle) :
    MergeEnded s (State.startMerge { s with peers := p, line := s.line.endMerge i }) p i := by
  have horder := LineController.endMerge_order ho
  have hfree : (s.line.endMerge i).bank i = .free := by simp [LineController.endMerge_bank]
  have hother : (s.line.endMerge i).bank i.other = s.line.bank i.other := by
    simp [LineController.endMerge_bank]
  obtain ⟨e, hnone⟩ | ⟨j, rest, -, hrest, e⟩ :=
    State.startMerge_cases_idle { s with peers := p, line := s.line.endMerge i } <;> rw [e]
  · have htail : s.line.order.tail = [] := horder.symm.trans (hnone hp)
    exact
      { frame := rfl, table := rfl, freed := hfree, order := horder
        line := by cases i <;> rfl
        last := fun _ => ⟨hp, hother⟩
        next := fun g h _ => by simp [htail] at h }
  · have htail : s.line.order.tail = j :: rest := horder.symm.trans hrest
    obtain ⟨b, hb⟩ := (s.line.endMerge i).beginMerge_eq_setBank j
    have hkeep : ((s.line.endMerge i).beginMerge j).order = (s.line.endMerge i).order := by simp [hb]
    exact
      { frame := rfl, table := rfl
        freed := LineController.beginMerge_free hfree j
        order := hkeep.trans horder
        line := by dsimp only; rw [hkeep]; exact s.line.endMerge_beginMerge_eq i j
        last := fun h => by simp [htail] at h
        next := fun g h hg => by
          obtain ⟨rfl, -⟩ := List.cons_eq_cons.mp (htail.symm.trans h)
          rw [LineController.beginMerge_of_full (hother.trans hg)]
          simp }

/-- A merge completion with a frame being merged ends its merge. -/
theorem mergeCompletion_eq (hv : s.station.setup = some v) (hw : s.peers.work = .merge i)
    (hb : s.line.bank i = .merging f) : exec .mergeCompletion s = .next (s.finishMerge v i f) := by
  simp [exec, execMergeCompletion, hv, hw, hb]

/-- Settles O36: the entry of the frame is written, and the merge ends. -/
theorem mergeWritesEntry : Obligations.MergeWritesEntry := by
  intro s v i f a hv hw hb ho ha hid
  let e : PeerEntry :=
    { id := bodyId f.body, state := a, headroom := bodyHeadroom f.body, e := bodyE f.body
      d := bodyD f.body, unusable := bodyUnusable f.body, stamp := f.stamp }
  have he : frameEntry f = some e := by simp [frameEntry, ha, e]
  have hfinish : s.finishMerge v i f = s.mergeEntry i e := by simp [State.finishMerge, hid, he]
  have hend := mergeEnded_startMerge ho
    { s.peers with entries := writeEntry e s.peers.entries, work := .idle } rfl
  have hentries : (s.mergeEntry i e).peers.entries = writeEntry e s.peers.entries := by
    simp [State.mergeEntry]
  refine ⟨s.mergeEntry i e, hfinish ▸ mergeCompletion_eq hv hw hb, hend.frame, ?_, fun j hj => ?_,
    by simp [State.mergeEntry], by simp [State.mergeEntry], hend.freed, hend.order, hend.line, hend.last,
    hend.next⟩
  · rw [hentries, entryOf_writeEntry, if_pos rfl]
  · rw [hentries, entryOf_writeEntry, if_neg hj]

/-- Settles O37: by the serial, the merge ends with the conflict counted, or FAULT is entered. -/
theorem mergeConflict : Obligations.MergeConflict := by
  intro s v i f hv hw hb ho hid
  have hnext := mergeCompletion_eq hv hw hb
  refine ⟨fun hlt => ?_, fun hle => ?_⟩
  · have hfinish : s.finishMerge v i f
        = State.startMerge { s with
            peers := { s.peers with conflict := 16, work := .idle }, line := s.line.endMerge i } := by
      simp [State.finishMerge, State.mergeConflict, hid, BitVec.le_def, hlt]
    have hend := mergeEnded_startMerge ho { s.peers with conflict := 16, work := .idle } rfl
    rw [hfinish] at hnext
    exact ⟨_, hnext, hend.frame, hend.table, hend.freed, hend.order, hend.line, hend.last, hend.next⟩
  · have hfinish : s.finishMerge v i f
        = State.enterFault { s with
            peers := { s.peers with work := .idle }, line := s.line.endMerge i } := by
      simp [State.finishMerge, State.mergeConflict, hid, BitVec.le_def, hle]
    have hstop : (s.line.endMerge i).stop = s.line.stop := by cases i <;> rfl
    rw [hnext, hfinish, State.enterFault]
    dsimp only
    rw [hstop]
    rfl

/-! ## The end of a copy -/

/-- Settles O38: with the new view in place the idle table starts a merge, or finds no frame waiting. -/
theorem viewCopyEnds : Obligations.ViewCopyEnds := by
  intro s w hw
  have hnext : exec .viewCopyCompletion s
      = .next (State.startMerge { s with peers := { s.peers with view := w, work := .idle } }) := by
    simp [exec, execViewCopyCompletion, hw]
  refine ⟨fun ho => ?_, fun i rest f ho hb => ?_⟩
  · exact hnext.trans (congrArg _ (State.startMerge_eq_self (.inl ho)))
  · exact ⟨_, hnext.trans (congrArg _ (State.startMerge_eq rfl ho hb)), rfl, by simp, by simp,
      LineController.setBank_eq ..⟩

/-! ## The reception of a frame -/

/-- Code 3 alone names no state (section 11.1, body byte 7). -/
theorem bodyState_isSome (body : Vector Byte 33) :
    (bodyState body).isSome = true ↔ (body[7].extractLsb' 6 2 : BitVec 2) ≠ 3#2 := by
  unfold bodyState
  generalize (body[7].extractLsb' 6 2 : BitVec 2) = c
  revert c
  decide

/-- The receive checks (R125). -/
theorem frameGood_iff (body : Vector Byte 33) (crc : BitVec 16) :
    frameGood body crc = true ↔ crc16 (33#8 :: body.toList) = crc ∧ body[0] = 0x11#8
      ∧ (body[7].extractLsb' 6 2 : BitVec 2) ≠ 3#2 := by
  simp only [frameGood, Bool.and_eq_true, decide_eq_true_eq, bodyState_isSome, and_assoc]
  rfl

/-- Settles O46: what the line does with the frame, and the start of its merge where the table is idle. -/
theorem frameReception : Obligations.FrameReception := by
  intro s v i body crc hlive hv hx good f l
  have hgood : frameGood body crc = true ↔ good := frameGood_iff body crc
  have hnext : exec (.frameReceptionCompletion body crc) s
      = .next (State.startMerge
          { s with line := s.line.received i v.group body crc s.acq.interval }) := by
    simp [exec, execFrameReceptionCompletion, hv, hx, hlive]
  obtain ⟨hg, hgroup, e⟩ | ⟨hg, hgroup, e⟩ | ⟨hg, e⟩ :=
    s.line.received_cases i v.group body crc s.acq.interval <;> rw [hnext, e]
  · have hwait : s.line.acceptFrame i f
        = { l.setBank i (.full f) with order := s.line.order ++ [i] } := by cases i <;> rfl
    refine ⟨fun hn => absurd (hgood.mp hg) hn, fun _ hn => absurd hgroup hn, fun _ _ hw => ?_,
      fun _ _ hw ho => ?_⟩
    · rw [← hwait]
      exact congrArg _ (State.startMerge_eq_self (.inr hw))
    · have hmerging : (s.line.acceptFrame i f).setBank i (.merging f)
          = { l.setBank i (.merging f) with order := [i] } := by
        rw [hwait, ho]
        cases i <;> rfl
      rw [← hmerging]
      refine congrArg _ (State.startMerge_eq (rest := []) ?_ ?_ ?_)
      · exact hw
      · simp [LineController.acceptFrame, ho]
      · cases i <;> rfl
  · have hfreed : s.line.dropForeign i = l.setBank i .free := by cases i <;> rfl
    refine ⟨fun hn => absurd (hgood.mp hg) hn, fun _ _ hidle => ?_, fun _ hn => absurd hn hgroup,
      fun _ hn => absurd hn hgroup⟩
    rw [← hfreed]
    exact congrArg _ (State.startMerge_eq_self (by simpa [LineController.dropForeign] using hidle))
  · have hbad : ¬ good := fun hn => by simp [hgood.mpr hn] at hg
    have hfailed : s.line.failFrame i
        = { l.setBank i .free with badFrames := min 255 (l.badFrames + 1) } := by cases i <;> rfl
    refine ⟨fun _ hidle => ?_, fun hn => absurd hn hbad, fun hn => absurd hn hbad,
      fun hn => absurd hn hbad⟩
    rw [← hfailed]
    exact congrArg _ (State.startMerge_eq_self (by simpa [LineController.failFrame] using hidle))

end Sys2Proof.Machine
end

section
/-! The share frame read back: each byte of flags bit by bit, each field of several bytes as the joining of its
bytes (11.1). -/

namespace Sys2Proof.Machine

open Sys2Proof

/-! ## A word that ends in a flag, and a word cut into bytes -/

theorem getLsbD_append_bit_zero {w : Nat} (x : BitVec w) (b : Bool) : (x ++ bit b).getLsbD 0 = b := by
  rw [BitVec.getLsbD_append, if_pos Nat.one_pos, bit]
  cases b <;> rfl

theorem getLsbD_append_bit_succ {w : Nat} (x : BitVec w) (b : Bool) (n : Nat) :
    (x ++ bit b).getLsbD (n + 1) = x.getLsbD n := by
  rw [BitVec.getLsbD_append, if_neg (by omega), Nat.add_sub_cancel]

theorem extract_append_bit {w : Nat} (x : BitVec w) (b : Bool) (n k : Nat) :
    (x ++ bit b).extractLsb' (n + 1) k = x.extractLsb' n k := by
  rw [BitVec.extractLsb'_append_eq_of_le (by omega), Nat.add_sub_cancel]

/-- A fraction code is its three bytes. -/
theorem frac_eq_bytes (x : Frac) : fracHigh x ++ fracMid x ++ fracLow x = x := by
  have hhigh : fracHigh x ++ fracMid x = x.extractLsb' 8 16 :=
    BitVec.extractLsb'_append_extractLsb'_eq_extractLsb' rfl
  rw [hhigh]
  exact (BitVec.extractLsb'_append_extractLsb'_eq_extractLsb' rfl).trans BitVec.extractLsb'_eq_self

theorem triple_eq_bytes (x : Triple) :
    (⟨fracHigh x.q ++ fracMid x.q ++ fracLow x.q, fracHigh x.re ++ fracMid x.re ++ fracLow x.re,
      fracHigh x.im ++ fracMid x.im ++ fracLow x.im⟩ : Triple) = x := by
  simp only [frac_eq_bytes]

/-- A headroom code is its two bytes. -/
theorem word16_eq_bytes (x : BitVec 16) : x.extractLsb' 8 8 ++ x.extractLsb' 0 8 = x :=
  (BitVec.extractLsb'_append_extractLsb'_eq_extractLsb' rfl).trans BitVec.extractLsb'_eq_self

/-- A serial is its four bytes. -/
theorem word32_eq_bytes (x : BitVec 32) :
    x.extractLsb' 24 8 ++ x.extractLsb' 16 8 ++ x.extractLsb' 8 8 ++ x.extractLsb' 0 8 = x := by
  have hhigh : x.extractLsb' 24 8 ++ x.extractLsb' 16 8 = x.extractLsb' 16 16 :=
    BitVec.extractLsb'_append_extractLsb'_eq_extractLsb' rfl
  have hmid : x.extractLsb' 16 16 ++ x.extractLsb' 8 8 = x.extractLsb' 8 24 :=
    BitVec.extractLsb'_append_extractLsb'_eq_extractLsb' rfl
  rw [hhigh, hmid]
  exact (BitVec.extractLsb'_append_extractLsb'_eq_extractLsb' rfl).trans BitVec.extractLsb'_eq_self

/-! ## The fields the receiver reads -/

variable (f : FrameFields)

theorem bodyState_frameBody : bodyState (frameBody f) = some f.state := by
  have hcode : ((frameBody f)[7].extractLsb' 6 2 : BitVec 2) = announcedCode f.state := by
    change (stateByte f).extractLsb' 6 2 = _
    simp only [stateByte, extract_append_bit]
    exact BitVec.extractLsb'_eq_self
  rw [bodyState, hcode]
  cases f.state <;> rfl

theorem bodyGroup_frameBody : bodyGroup (frameBody f) = f.group := by
  change (idByte f).extractLsb' 4 4 = _
  simp only [idByte, extract_append_bit]
  exact BitVec.extractLsb'_append_eq_left

theorem bodyId_frameBody : bodyId (frameBody f) = f.id := by
  have hcode : ((frameBody f)[1].extractLsb' 1 3 : BitVec 3) = BitVec.ofNat 3 f.id.val := by
    change (idByte f).extractLsb' 1 3 = _
    simp only [idByte, extract_append_bit]
    exact BitVec.extractLsb'_append_eq_right
  rw [bodyId, hcode, BitVec.toNat_ofNat]
  ext
  simp

theorem bodySerial_frameBody : bodySerial (frameBody f) = f.serial := word32_eq_bytes f.serial

theorem bodyHeadroom_frameBody : bodyHeadroom (frameBody f) = f.headroom := word16_eq_bytes f.headroom

theorem bodyUnusable_frameBody : bodyUnusable (frameBody f) = f.flags.unusable := by
  change (flagsByte f.flags).getLsbD 3 = _
  simp only [flagsByte, getLsbD_append_bit_succ, getLsbD_append_bit_zero]

theorem bodyE_frameBody : bodyE (frameBody f) = f.e := triple_eq_bytes f.e

theorem bodyD_frameBody : bodyD (frameBody f) = f.d := triple_eq_bytes f.d

theorem frameGood_shareFrame : frameGood (shareFrame f).body (shareFrame f).crc = true := by
  have hcrc : frameCrc (frameBody f) = (shareFrame f).crc := rfl
  have hkind : (frameBody f)[0] = 0x11#8 := rfl
  change frameGood (frameBody f) _ = true
  simp only [frameGood, hcrc, hkind, bodyState_frameBody, decide_true, Option.isSome_some, Bool.and_self]

theorem frameEntry_frameBody (stamp : Num) :
    frameEntry ⟨frameBody f, stamp⟩
      = some { id := f.id, state := f.state, headroom := f.headroom, e := f.e, d := f.d
               unusable := f.flags.unusable, stamp := stamp } := by
  simp only [frameEntry, bodyState_frameBody, bodyId_frameBody, bodyHeadroom_frameBody, bodyE_frameBody,
    bodyD_frameBody, bodyUnusable_frameBody, Option.map_some]

/-! ## The fields for a listener -/

/-- Body byte 7 below the state: the hold-cause set and conflict-seen. -/
theorem stateByte_flags :
    (stateByte f).getLsbD 5 = f.causes.sync ∧ (stateByte f).getLsbD 4 = f.causes.module
      ∧ (stateByte f).getLsbD 3 = f.causes.frontend ∧ (stateByte f).getLsbD 2 = f.causes.quench
      ∧ (stateByte f).getLsbD 1 = f.causes.xcheck ∧ (stateByte f).getLsbD 0 = f.conflictSeen := by
  simp only [stateByte, getLsbD_append_bit_succ, getLsbD_append_bit_zero, and_self]

/-- Body byte 8 but for the unusable flag. -/
theorem flagsByte_flags (w : WindowFlags) :
    ((flagsByte w).extractLsb' 5 3 : BitVec 3) = 0 ∧ (flagsByte w).getLsbD 4 = w.clipped
      ∧ (flagsByte w).getLsbD 2 = w.overRange ∧ (flagsByte w).getLsbD 1 = w.coasting
      ∧ (flagsByte w).getLsbD 0 = w.frozen := by
  simp only [flagsByte, extract_append_bit, getLsbD_append_bit_succ, getLsbD_append_bit_zero, and_self,
    and_true]
  exact BitVec.extractLsb'_eq_self

/-- A counter held at 255 fills its byte (R129). -/
theorem toNat_counterByte {n : Nat} (h : n ≤ 255) : (BitVec.ofNat 8 n).toNat = n := by
  rw [BitVec.toNat_ofNat, Nat.mod_eq_of_lt (by omega)]

/-- Settles O47, field by field. -/
theorem frameRoundTrip : Obligations.FrameRoundTrip := by
  intro f stamp b
  obtain ⟨hsync, hmodule, hfrontend, hquench, hxcheck, hconflict⟩ := stateByte_flags f
  obtain ⟨hzero, hclipped, hover, hcoasting, hfrozen⟩ := flagsByte_flags f.flags
  have hadjusted : (idByte f).getLsbD 0 = f.adjusted := getLsbD_append_bit_zero ..
  exact ⟨frameGood_shareFrame f, rfl, bodyGroup_frameBody f, bodySerial_frameBody f,
    frameEntry_frameBody f stamp, hadjusted, rfl, hsync, hmodule, hfrontend, hquench, hxcheck, hconflict,
    hzero, hclipped, hover, hcoasting, hfrozen, toNat_counterByte, toNat_counterByte, toNat_counterByte,
    toNat_counterByte⟩

end Sys2Proof.Machine
end

section
/-! Contention: what a failed attempt leaves, the laws of contention, and the random source (7.2 to 7.4). -/

namespace Sys2Proof.Machine

open Sys2Proof

variable {s t : State} {l m : LineController}

/-! ## The attempt in hand -/

/-- What contention speaks of: its state, the slot, NB, BE, the wait and the random source. -/
structure Attempt where
  contention : Contention
  slot : Option SlotFrame
  nb : Nat
  be : Nat
  wait : Nat
  lfsr : BitVec 16

def LineController.attempt (l : LineController) : Attempt :=
  { contention := l.contention, slot := l.slot, nb := l.nb, be := l.be, wait := l.wait, lfsr := l.lfsr }

/-! The receive side and the peer table leave it alone. -/

@[simp] theorem LineController.setBank_attempt (l : LineController) (i : RxId) (b : RxBank) :
    (l.setBank i b).attempt = l.attempt := by cases i <;> rfl

@[simp] theorem LineController.endMerge_attempt (l : LineController) (i : RxId) :
    (l.endMerge i).attempt = l.attempt := by cases i <;> rfl

theorem LineController.failFrame_attempt (l : LineController) (i : RxId) :
    (l.failFrame i).attempt = l.attempt := by cases i <;> rfl

@[simp] theorem LineController.goIdle_attempt (l : LineController) : l.goIdle.attempt = l.attempt := by
  obtain ⟨-, e⟩ | ⟨-, i, -, e⟩ | ⟨-, -, e⟩ := l.goIdle_cases <;> rw [e]
  · exact l.failFrame_attempt i
  · rfl

@[simp] theorem LineController.lengthChecked_attempt (l : LineController) (i : RxId) (len : Byte) :
    (l.lengthChecked i len).attempt = l.attempt := by
  obtain ⟨-, e⟩ | ⟨-, e⟩ := l.lengthChecked_cases i len <;> rw [e]
  · rfl
  · exact l.failFrame_attempt i

@[simp] theorem LineController.delimiter_attempt (l : LineController) : l.delimiter.attempt = l.attempt := by
  obtain ⟨i, -, e⟩ | ⟨-, e⟩ := l.delimiter_cases <;> rw [e]
  · exact l.setBank_attempt i .receiving
  · rfl

@[simp] theorem LineController.delimiter_lfsr (l : LineController) : l.delimiter.lfsr = l.lfsr :=
  congrArg Attempt.lfsr l.delimiter_attempt

@[simp] theorem LineController.received_attempt (l : LineController) (i : RxId) (g : BitVec 4)
    (body : Vector Byte 33) (crc : BitVec 16) (stamp : Num) :
    (l.received i g body crc stamp).attempt = l.attempt := by
  obtain ⟨-, -, e⟩ | ⟨-, -, e⟩ | ⟨-, e⟩ := l.received_cases i g body crc stamp <;> rw [e]
  · exact l.setBank_attempt i (.full ⟨body, stamp⟩)
  · exact l.setBank_attempt i .free
  · exact l.failFrame_attempt i

@[simp] theorem abandonWork_attempt (w : TableWork) (l : LineController) :
    (abandonWork w l).attempt = l.attempt := by
  obtain ⟨i, b, e⟩ := abandonWork_eq_setBank w l
  rw [e, LineController.setBank_attempt]

@[simp] theorem State.startMerge_attempt (s : State) : s.startMerge.line.attempt = s.line.attempt := by
  obtain ⟨i, b, e⟩ := s.startMerge_line
  rw [e, LineController.setBank_attempt]

/-! ## A failed attempt -/

/-- A failed clear check, drop and draw in one equation (R117). -/
theorem LineController.checkFailed_eq (l : LineController) :
    l.checkFailed
      = if 4 < l.nb + 1 ∨ false = true then l.countFailure.drop else l.countFailure.enterBackoff := by
  obtain ⟨h, e⟩ | ⟨h, e⟩ := l.checkFailed_cases <;> rw [e]
  · rw [if_pos (.inl h)]
  · rw [if_neg (by simpa using h)]

/-- A collision, drop and draw in one equation (R120). -/
theorem LineController.collide_eq (l : LineController) :
    l.collide
      = if 4 < l.nb + 1 ∨ l.mark = true then l.countFailure.drop else l.countFailure.enterBackoff := by
  obtain ⟨h, e⟩ | ⟨h, hm, e⟩ := l.collide_cases <;> rw [e]
  · rw [if_pos h]
  · rw [if_neg (by simpa [hm] using h)]

/-- Outside a clear check on an idle line, carrier sense alone goes busy (R112). -/
theorem LineController.goBusy_eq (h : l.contention ≠ .check ∨ l.busy = true) :
    l.goBusy = { l with busy := true } := by
  obtain ⟨hc, hb, -⟩ | ⟨-, e⟩ := l.goBusy_cases
  · simp [hc, hb] at h
  · exact e

/-- A clear check being timed fails where the line goes busy (R116, R117). -/
theorem LineController.goBusy_of_check (hc : l.contention = .check) (hb : l.busy = false) :
    l.goBusy = { l with busy := true }.checkFailed := by
  obtain ⟨-, -, e⟩ | ⟨h, -⟩ := l.goBusy_cases
  · exact e
  · simp [hc, hb] at h

theorem lineBusy_eq (hl : s.station.state.live = true) :
    exec .lineBusy s = .next { s with line := s.line.goBusy } := by simp [exec, execLineBusy, hl]

/-- Settles O41: either way a failed attempt is counted, and dropped or drawn again. -/
theorem failedAttempt : Obligations.FailedAttempt := by
  intro s hl l be x fresh r failed
  refine ⟨fun hc => ?_, fun hc hb => ?_, fun h => ?_⟩
  · have hnext : exec .collision s = .next { s with line := s.line.collide } := by
      simp [exec, execCollision, hl, show s.line.contention = .sending from hc]
    rw [hnext, LineController.collide_eq]
    rfl
  · rw [lineBusy_eq hl, LineController.goBusy_of_check hc hb, LineController.checkFailed_eq]
    rfl
  · rw [lineBusy_eq hl, LineController.goBusy_eq h]

/-! ## Backoff, clear check and transmission -/

/-- Settles O40: each command finds the contention state it waits for. -/
theorem contentionAdvances : Obligations.ContentionAdvances := by
  refine ⟨fun s hl => ⟨fun hc => ?_, fun hc hb => ?_⟩, fun s f hl hc hf => ?_⟩
  · simp [exec, execBackoffExpiry, hl, hc]
  · simp [exec, execClearCheckPass, hl, hc, hb]
  · have hnext : exec .transmissionCompletion s = .next (s.transmitted f) := by
      simp [exec, execTransmissionCompletion, hl, hc, hf]
    have hannounced : (s.station.announced || decide (f.state = .active))
        = if f.state = .active then true else s.station.announced := by
      by_cases ha : f.state = .active <;> simp [ha]
    rw [hnext, State.transmitted, Station.sent, hannounced]

/-! ## The laws of contention -/

/-- The laws of contention, of the attempt alone. -/
def Attempt.Sound (a : Attempt) : Prop :=
  (a.slot = none ↔ a.contention = .quiet)
    ∧ (a.contention ≠ .quiet → a.nb ≤ 4 ∧ a.be = min 5 (2 + a.nb))
    ∧ (a.contention = .backoff → 0 < a.wait ∧ a.wait < 2 ^ a.be)

theorem contentionSound_iff : ContentionSound s ↔ s.line.attempt.Sound := Iff.rfl

namespace Attempt.Sound

/-- With no frame in hand nothing is left to say. -/
theorem of_empty (hs : l.slot = none) (hc : l.contention = .quiet) : l.attempt.Sound :=
  ⟨iff_of_true hs hc, fun h => absurd hc h, fun h => nomatch hc.symm.trans h⟩

theorem drop (l : LineController) : l.drop.attempt.Sound := of_empty rfl rfl

/-- A wait that has ended and a clear check that has passed leave the slot, NB and BE (R115, R116). -/
theorem advance (h : l.attempt.Sound) (hl : l.contention ≠ .quiet) {c : Contention}
    (hc : c = .check ∨ c = .sending) : { l.attempt with contention := c }.Sound := by
  obtain ⟨hslot, hcount, -⟩ := h
  have hc' : c ≠ .quiet ∧ c ≠ .backoff := by rcases hc with rfl | rfl <;> decide
  obtain ⟨hquiet, hbackoff⟩ := hc'
  exact ⟨iff_of_false (fun h => hl (hslot.mp h)) hquiet, fun _ => hcount hl, fun h => absurd h hbackoff⟩

/-- A draw takes a frame with NB and BE in step to BACKOFF with a wait in range, or to CHECK (R115). -/
theorem enterBackoff (hs : l.slot ≠ none) (hn : l.nb ≤ 4) (hb : l.be = min 5 (2 + l.nb)) :
    l.enterBackoff.attempt.Sound := by
  obtain ⟨hc, -⟩ | ⟨hc, hwait⟩ := l.enterBackoff_cases
  · exact ⟨iff_of_false hs (by simp [LineController.attempt, hc]), fun _ => ⟨hn, hb⟩,
      fun h => nomatch hc.symm.trans h⟩
  · exact ⟨iff_of_false hs (by simp [LineController.attempt, hc]), fun _ => ⟨hn, hb⟩, fun _ => hwait⟩

/-- A failure below the fifth leaves a frame in hand with NB and BE in step (R117, R120). -/
theorem retry (h : l.attempt.Sound) (hl : l.contention ≠ .quiet) (hn : l.nb + 1 ≤ 4) :
    l.countFailure.enterBackoff.attempt.Sound := by
  obtain ⟨hslot, hcount, -⟩ := h
  have hbe : l.be = min 5 (2 + l.nb) := (hcount hl).2
  refine enterBackoff (fun h => hl (hslot.mp h)) hn ?_
  rw [LineController.countFailure_be, LineController.countFailure_nb, bump]
  omega

theorem checkFailed (h : l.attempt.Sound) (hl : l.contention ≠ .quiet) : l.checkFailed.attempt.Sound := by
  obtain ⟨-, e⟩ | ⟨hn, e⟩ := l.checkFailed_cases <;> rw [e]
  · exact drop _
  · exact h.retry hl hn

theorem collide (h : l.attempt.Sound) (hl : l.contention ≠ .quiet) : l.collide.attempt.Sound := by
  obtain ⟨-, e⟩ | ⟨hn, -, e⟩ := l.collide_cases <;> rw [e]
  · exact drop _
  · exact h.retry hl hn

theorem goBusy (h : l.attempt.Sound) : l.goBusy.attempt.Sound := by
  obtain ⟨hc, -, e⟩ | ⟨-, e⟩ := l.goBusy_cases <;> rw [e]
  · exact checkFailed (l := { l with busy := true }) h (by simp [hc])
  · exact h

theorem deadline (h : l.attempt.Sound) : l.deadline.attempt.Sound := by
  obtain ⟨-, e⟩ | ⟨-, e⟩ | ⟨-, e⟩ := l.deadline_cases <;> rw [e]
  · exact h
  · exact drop l
  · exact h

theorem move (h : l.attempt.Sound) (hm : LineMove l m) : m.attempt.Sound := by
  cases hm with
  | check hc => exact h.advance (by simp [hc]) (.inl rfl)
  | send hc => exact h.advance (by simp [hc]) (.inr rfl)
  | busy => exact h.goBusy
  | idle => rwa [LineController.goIdle_attempt]
  | collide hc => exact h.collide (by simp [hc])
  | delimiter => rw [LineController.delimiter_attempt]; exact h.goBusy
  | length i len => rwa [LineController.lengthChecked_attempt]

end Attempt.Sound

theorem resets_contentionSound {c : Instr} (h : Resets s c t) : ContentionSound t := by
  cases h <;> exact contentionSound_iff.mpr (.of_empty rfl rfl)

theorem ContentionSound.acts (h : ContentionSound s) (a : Acts s t) : ContentionSound t := by
  rw [contentionSound_iff] at h ⊢
  cases a with
  | nothing | off | silence | scan | runInFault => exact h
  | expiry | status | close | copied | received | merged => simpa using h
  | listen | badImage | conflict | sent => exact .of_empty rfl rfl
  | deadline => exact h.deadline
  | run r v => exact .enterBackoff nofun (Nat.zero_le 4) rfl
  | line l _ hm => exact h.move hm

/-- Settles O42: a command leaves the attempt alone, empties the slot, advances the attempt, or draws. -/
theorem contentionSoundKept : Obligations.ContentionSoundKept := by
  intro s t
  exact kept_of_acts (fun _ _ h => h) (fun _ _ _ => resets_contentionSound) (fun _ _ h a => h.acts a)

/-! ## The random source -/

/-- A step shifts the register down by one (R118). -/
theorem getLsbD_lfsrStep_of_lt (x : BitVec 16) {i : Nat} (hi : i < 15) :
    (lfsrStep x).getLsbD i = x.getLsbD (i + 1) := by
  rw [lfsrStep, BitVec.getLsbD_append, if_pos hi]
  simp [hi, Nat.add_comm]

/-- The bit formed goes to the top (R118). -/
theorem getLsbD_lfsrStep_top (x : BitVec 16) : (lfsrStep x).getLsbD 15 = lfsrBit x := by
  rw [lfsrStep, BitVec.getLsbD_append, if_neg (Nat.lt_irrefl 15), bit]
  cases lfsrBit x <;> rfl

/-- A register that steps to zero has no bit above the lowest, so the bit formed is its lowest: the step loses
nothing (R118). -/
theorem lfsrStep_ne_zero {x : BitVec 16} (hx : x ≠ 0) : lfsrStep x ≠ 0 := by
  intro h
  have hhigh : ∀ i, i < 15 → x.getLsbD (i + 1) = false := fun i hi => by
    rw [← getLsbD_lfsrStep_of_lt x hi, h]; exact BitVec.getLsbD_zero
  have htop : lfsrBit x = false := by rw [← getLsbD_lfsrStep_top, h]; exact BitVec.getLsbD_zero
  have hlow : x.getLsbD 0 = false := by
    simpa only [lfsrBit, hhigh 1 (by decide), hhigh 2 (by decide), hhigh 4 (by decide), Bool.xor_false] using htop
  refine hx (BitVec.eq_of_getLsbD_eq fun i hi => ?_)
  cases i with
  | zero => exact hlow
  | succ n => exact (hhigh n (by omega)).trans BitVec.getLsbD_zero.symm

theorem toNat_serial_low (n : BitVec 32) : (n.extractLsb' 0 16 : BitVec 16).toNat = n.toNat % 65536 := by
  simp

theorem lfsrSeed_of_low_ne_zero {n : BitVec 32} (h : n.toNat % 65536 ≠ 0) :
    (lfsrSeed n).toNat = n.toNat % 65536 := by
  have hlow : (n.extractLsb' 0 16 : BitVec 16) ≠ 0 := fun e => h (by rw [← toNat_serial_low, e]; rfl)
  rw [lfsrSeed, if_neg hlow, toNat_serial_low]

theorem lfsrSeed_of_low_eq_zero {n : BitVec 32} (h : n.toNat % 65536 = 0) : lfsrSeed n = 0xACE1#16 :=
  if_pos (BitVec.eq_of_toNat_eq (y := 0) ((toNat_serial_low n).trans h))

theorem lfsrSeed_ne_zero (n : BitVec 32) : lfsrSeed n ≠ 0 := by
  by_cases h : n.toNat % 65536 = 0
  · rw [lfsrSeed_of_low_eq_zero h]
    decide
  · intro e
    rw [← lfsrSeed_of_low_ne_zero h, e] at h
    exact h rfl

/-- What can become of the random source of a running line: it stands or takes one step (R118). -/
def Draws (l m : LineController) : Prop := m.lfsr = l.lfsr ∨ m.lfsr = lfsrStep l.lfsr

theorem draws_of_attempt (h : m.attempt = l.attempt) : Draws l m := .inl (congrArg Attempt.lfsr h)

theorem draws_checkFailed (l : LineController) : Draws l l.checkFailed := by
  obtain ⟨-, e⟩ | ⟨-, e⟩ := l.checkFailed_cases <;> simp [Draws, e]

theorem draws_collide (l : LineController) : Draws l l.collide := by
  obtain ⟨-, e⟩ | ⟨-, -, e⟩ := l.collide_cases <;> simp [Draws, e]

theorem draws_goBusy (l : LineController) : Draws l l.goBusy := by
  obtain ⟨-, -, e⟩ | ⟨-, e⟩ := l.goBusy_cases <;> rw [e]
  · exact draws_checkFailed { l with busy := true }
  · exact .inl rfl

theorem draws_deadline (l : LineController) : Draws l l.deadline := by
  obtain ⟨-, e⟩ | ⟨-, e⟩ | ⟨-, e⟩ := l.deadline_cases <;> simp [Draws, e]

theorem LineMove.draws (hm : LineMove l m) : Draws l m := by
  cases hm with
  | check | send => exact .inl rfl
  | busy => exact draws_goBusy l
  | idle => exact draws_of_attempt l.goIdle_attempt
  | collide => exact draws_collide l
  | delimiter =>
    rw [Draws, LineController.delimiter_lfsr]
    exact draws_goBusy l
  | length i len => exact draws_of_attempt (l.lengthChecked_attempt i len)

/-- An act that ends in LISTEN, ACTIVE or HOLD seeds the random source, or began there and drew at most once. -/
theorem Acts.lfsr_cases (a : Acts s t) (hl : t.station.state.live = true) :
    (∃ n, t.line.lfsr = lfsrSeed n) ∨ (s.station.state.live = true ∧ Draws s.line t.line) := by
  cases a with
  | nothing | silence | scan | runInFault => exact .inr ⟨hl, .inl rfl⟩
  | expiry | status | close | copied | received | merged =>
    exact .inr ⟨by simpa using hl, draws_of_attempt (by simp)⟩
  | off p w x _ hx => rcases hx with rfl | rfl <;> cases hl
  | listen p image v => exact .inl ⟨v.serial, rfl⟩
  | badImage | conflict => cases hl
  | deadline => exact .inr ⟨hl, draws_deadline s.line⟩
  | run r v _ _ _ hs => exact .inr ⟨hs, .inr rfl⟩
  | line l hs hm => exact .inr ⟨hs, hm.draws⟩
  | sent f hs => exact .inr ⟨hs, .inl rfl⟩

theorem resets_randomSound {c : Instr} (h : Resets s c t) : RandomSound t := by cases h <;> exact nofun

theorem RandomSound.acts (h : RandomSound s) (a : Acts s t) : RandomSound t := by
  intro hl
  obtain ⟨n, e⟩ | ⟨hs, e | e⟩ := a.lfsr_cases hl <;> rw [e]
  · exact lfsrSeed_ne_zero n
  · exact h hs
  · exact lfsrStep_ne_zero (h hs)

/-- Settles O43: the register bit by bit, the seed, and the step law along the kinds of commands. -/
theorem randomSource : Obligations.RandomSource := by
  refine ⟨fun x => ⟨fun i => getLsbD_lfsrStep_of_lt x, getLsbD_lfsrStep_top x, lfsrStep_ne_zero⟩,
    fun n => ⟨lfsrSeed_of_low_ne_zero, lfsrSeed_of_low_eq_zero⟩, fun s t => ?_⟩
  exact kept_of_acts (fun _ _ h => h) (fun _ _ _ => resets_randomSound) (fun _ _ h a => h.acts a)

end Sys2Proof.Machine
end

section
/-! The receiver between frames: the byte 0x9E, the length byte, and the line gone idle (7.5). -/

namespace Sys2Proof.Machine

open Sys2Proof

variable {s : State} {l : LineController} {i : RxId} {n : Nat}

/-! ## What the line going busy leaves of the receive side -/

@[simp] theorem LineController.goBusy_rx (l : LineController) : l.goBusy.rx = l.rx := (transmitSide_goBusy l).rx

@[simp] theorem LineController.goBusy_bank (l : LineController) : l.goBusy.bank = l.bank :=
  (transmitSide_goBusy l).bank

/-- The name of the bank claimed last and the counters of the receive side stand too (R112). -/
theorem LineController.goBusy_receiveCounters (l : LineController) :
    l.goBusy.lastClaimed = l.lastClaimed ∧ l.goBusy.rxOverruns = l.rxOverruns
      ∧ l.goBusy.badFrames = l.badFrames := by
  obtain ⟨-, -, e⟩ | ⟨-, e⟩ := l.goBusy_cases <;> rw [e]
  · obtain ⟨-, e⟩ | ⟨-, e⟩ := LineController.checkFailed_cases { l with busy := true } <;> simp [e]
  · exact ⟨rfl, rfl, rfl⟩

/-- A busy line that goes busy stays as it is (R112). -/
@[simp] theorem LineController.goBusy_goBusy (l : LineController) : l.goBusy.goBusy = l.goBusy := by
  rw [LineController.goBusy_eq (.inr l.goBusy_busy), ← l.goBusy_busy]

/-! ## The bank a start delimiter claims -/

theorem RxBank.isFree_iff (b : RxBank) : b.isFree = true ↔ b = .free := by cases b <;> simp [RxBank.isFree]

theorem LineController.claimable_other (h : l.bank l.lastClaimed.other = .free) :
    l.claimable = some l.lastClaimed.other := if_pos ((RxBank.isFree_iff _).mpr h)

theorem LineController.claimable_last (ho : l.bank l.lastClaimed.other ≠ .free)
    (h : l.bank l.lastClaimed = .free) : l.claimable = some l.lastClaimed := by
  simp [LineController.claimable, RxBank.isFree_iff, ho, h]

theorem LineController.claimable_none (ho : l.bank l.lastClaimed.other ≠ .free)
    (h : l.bank l.lastClaimed ≠ .free) : l.claimable = none := by
  simp [LineController.claimable, RxBank.isFree_iff, ho, h]

theorem LineController.delimiter_of_claimable (h : l.claimable = some i) :
    l.delimiter = { l.setBank i .receiving with lastClaimed := i, rx := .length i } := by
  simp [LineController.delimiter, h]

/-- The bank claimed last, claimed again, keeps its name as such. -/
theorem LineController.delimiter_of_claimable_last (h : l.claimable = some l.lastClaimed) :
    l.delimiter = { l.setBank l.lastClaimed .receiving with rx := .length l.lastClaimed } := by
  simp [LineController.delimiter_of_claimable h]

theorem LineController.delimiter_of_overrun (h : l.claimable = none) :
    l.delimiter = { l with rx := .waitIdle, rxOverruns := bump 255 l.rxOverruns } := by
  simp [LineController.delimiter, h]

/-! ## The byte 0x9E -/

theorem startDelimiter_eq (hl : s.station.state.live = true) (hx : s.line.rx = .hunting) (n : Nat) :
    exec (.startDelimiter n) s = .next { s with line := s.line.delimiterByte n } := by
  simp [exec, execStartDelimiter, hl, hx]

theorem startDelimiter_eq_of_lt (hl : s.station.state.live = true) (hx : s.line.rx = .hunting) (hn : n < 16) :
    exec (.startDelimiter n) s = .next { s with line := s.line.goBusy } := by
  obtain ⟨h, -⟩ | ⟨-, e⟩ := s.line.delimiterByte_cases n
  · omega
  · rw [startDelimiter_eq hl hx, e]

theorem startDelimiter_eq_of_le (hl : s.station.state.live = true) (hx : s.line.rx = .hunting) (hn : 16 ≤ n) :
    exec (.startDelimiter n) s = .next { s with line := s.line.goBusy.delimiter } := by
  obtain ⟨-, e⟩ | ⟨h, -⟩ := s.line.delimiterByte_cases n
  · rw [startDelimiter_eq hl hx, e]
  · omega

/-- Settles O44: the line goes busy, and after 16 bits of preamble the delimiter is taken at the busy line. -/
theorem delimiterClaimsBank : Obligations.DelimiterClaimsBank := by
  intro s n hl hx
  refine ⟨fun hn => ?_, fun hn t ht => ?_, fun hn t ht => ?_, fun hn hbusy => ?_⟩
  · rw [startDelimiter_eq_of_lt hl hx hn, lineBusy_eq hl]
  · rw [startDelimiter_eq_of_lt hl hx hn, next_inj] at ht
    obtain ⟨hlast, hoverruns, hbad⟩ := s.line.goBusy_receiveCounters
    subst ht
    exact ⟨fun i => by simp, by simpa using hx, hlast, hoverruns, hbad, by simp⟩
  · rw [lineBusy_eq hl, next_inj] at ht
    subst ht
    have hx' : s.line.goBusy.rx = .hunting := by simpa using hx
    rw [startDelimiter_eq_of_le hl hx hn,
      startDelimiter_eq_of_le (s := { s with line := s.line.goBusy }) hl hx' hn]
    simp
  · intro i l
    have hnext : exec (.startDelimiter n) s = .next { s with line := l.delimiter } := by
      rw [startDelimiter_eq_of_le hl hx hn, LineController.goBusy_eq hbusy]
    rw [hnext]
    refine ⟨fun ho => ?_, fun ho h => ?_, fun ho h => ?_⟩
    · rw [LineController.delimiter_of_claimable (LineController.claimable_other (l := l) ho)]
    · rw [LineController.delimiter_of_claimable_last (LineController.claimable_last (l := l) ho h)]
    · rw [LineController.delimiter_of_overrun (LineController.claimable_none (l := l) ho h)]
      rfl

/-! ## The length byte and the idle line -/

theorem lengthByteCheck_eq (hl : s.station.state.live = true) (hx : s.line.rx = .length i) (len : Byte) :
    exec (.lengthByteCheck len) s = .next { s with line := s.line.lengthChecked i len } := by
  simp [exec, execLengthByteCheck, hl, hx]

theorem lineIdle_eq (hl : s.station.state.live = true) :
    exec .lineIdle s = .next { s with line := s.line.goIdle } := by simp [exec, execLineIdle, hl]

/-- A reception in hand fails where the line goes idle (R125). -/
theorem LineController.goIdle_of_filling (hc : l.contention ≠ .sending) (hx : l.rx.filling = some i) :
    l.goIdle = { l.failFrame i with busy := false, rx := .hunting } := by
  obtain ⟨h, -⟩ | ⟨-, j, hj, e⟩ | ⟨-, h, -⟩ := l.goIdle_cases
  · exact absurd h hc
  · obtain rfl := Option.some_inj.mp (hx.symm.trans hj)
    exact e
  · simp [hx] at h

/-- With no reception in hand the receiver looks for a delimiter again (R112, R123). -/
theorem LineController.goIdle_of_not_filling (hc : l.contention ≠ .sending) (hx : l.rx.filling = none) :
    l.goIdle = { l with busy := false, rx := .hunting } := by
  obtain ⟨h, -⟩ | ⟨-, j, hj, -⟩ | ⟨-, -, e⟩ := l.goIdle_cases
  · exact absurd h hc
  · simp [hx] at hj
  · exact e

theorem LineController.goIdle_of_sending (hc : l.contention = .sending) : l.goIdle = l := by
  simp [LineController.goIdle, hc]

/-- Settles O45: by what the receiver has in hand. -/
theorem lengthByteAndIdleLine : Obligations.LengthByteAndIdleLine := by
  intro s hl failed
  have hfailed (i : RxId) : s.line.failFrame i = { failed i with rx := .waitIdle } := rfl
  refine ⟨fun i hx => ⟨?_, fun n hn => ?_⟩, fun hc => ⟨fun i hx => ?_, fun hx => ?_⟩, fun hc => ?_⟩
  · rw [lengthByteCheck_eq hl hx]
    rfl
  · have e : s.line.lengthChecked i n = s.line.failFrame i := if_neg hn
    rw [lengthByteCheck_eq hl hx, e, hfailed]
  · have hfilling : s.line.rx.filling = some i := by rcases hx with hx | hx <;> rw [hx] <;> rfl
    rw [lineIdle_eq hl, LineController.goIdle_of_filling hc hfilling, hfailed]
  · have hfilling : s.line.rx.filling = none := by rcases hx with hx | hx | hx <;> rw [hx] <;> rfl
    rw [lineIdle_eq hl, LineController.goIdle_of_not_filling hc hfilling]
  · rw [lineIdle_eq hl, LineController.goIdle_of_sending hc]

end Sys2Proof.Machine
end

section
/-! The plan ring: its law, kept by every step, and the streamer at rest outside ACTIVE and HOLD (8.1 to 8.4). -/

namespace Sys2Proof.Machine

open Sys2Proof

variable {s t : State} {r : PlanRing} {n : Num} {p : Play} {y : Streamer}

/-! ## PENDING slots -/

theorem Slot.isPending_iff {x : Slot} : x.isPending = true ↔ ∃ q, x = .pending q := by
  cases x <;> simp [Slot.isPending]

theorem PlanRing.hasPending_iff : r.hasPending = true ↔ ∃ i q, r.slot i = .pending q := by
  simp only [PlanRing.hasPending, Bool.or_eq_true, Slot.isPending_iff, Fin.exists_fin_succ, or_assoc]
  simp [PlanRing.slot]

theorem PlanRing.hasPending_eq_false : r.hasPending = false ↔ ∀ i q, r.slot i ≠ .pending q := by
  simpa using not_congr r.hasPending_iff

/-- The slot of a boundary is the one PENDING slot for its interval (R136). -/
theorem PlanRing.find_unique {i : Fin 4} {q : Plan} (h : r.slot i = .pending q) (hn : q.target = n)
    (huniq : ∀ j x, r.slot j = .pending x → x.target = n → j = i) : r.find n = some (i, q) := by
  cases hf : r.find n with
  | none => exact absurd hn (PlanRing.find_none hf i q h)
  | some jx =>
    obtain ⟨j, x⟩ := jx
    obtain ⟨hj, hx⟩ := PlanRing.find_some hf
    obtain rfl := huniq j x hj hx
    obtain rfl : q = x := Slot.pending.inj (h.symm.trans hj)
    rfl

/-- No slot is found where none is PENDING for the interval (R136). -/
theorem PlanRing.find_eq_none (h : ∀ i q, r.slot i = .pending q → q.target ≠ n) : r.find n = none := by
  cases hf : r.find n with
  | none => rfl
  | some iq =>
    obtain ⟨hi, hq⟩ := PlanRing.find_some hf
    exact absurd hq (h _ _ hi)

/-! ## The slots after an operation of the ring -/

theorem Slot.endPlay_eq_pending {x : Slot} {q : Plan} : x.endPlay = .pending q ↔ x = .pending q := by
  cases x <;> simp [Slot.endPlay]

theorem Slot.endPlay_ne_playing (x : Slot) (q : Plan) : x.endPlay ≠ .playing q := by
  cases x <;> simp [Slot.endPlay]

theorem Slot.endPlay_eq_empty {x : Slot} (h : ∀ q, x ≠ .pending q) : x.endPlay = .empty := by
  cases x with
  | empty | playing => rfl
  | pending q => exact absurd rfl (h q)

@[simp] theorem PlanRing.slot_rest (r : PlanRing) (j : Fin 4) : r.rest.slot j = (r.slot j).endPlay :=
  r.slot_mapSlots _ j

@[simp] theorem PlanRing.slot_clear (r : PlanRing) (j : Fin 4) : r.clear.slot j = .empty :=
  r.slot_mapSlots _ j

@[simp] theorem PlanRing.slot_promote (r : PlanRing) (i j : Fin 4) (q : Plan) :
    (r.promote i q).slot j = if j = i then .playing q else (r.slot j).endPlay := by
  simp [PlanRing.promote]

@[simp] theorem PlanRing.slot_rest_discard (r : PlanRing) (i j : Fin 4) :
    (r.rest.discard i).slot j = if j = i then .empty else (r.slot j).endPlay := by
  simp [PlanRing.discard]

@[simp] theorem PlanRing.promote_writeIndex (r : PlanRing) (i : Fin 4) (q : Plan) :
    (r.promote i q).writeIndex = r.writeIndex := r.rest.setSlot_writeIndex i _

/-! ## The law of the ring -/

/-- The law of the ring at close number `n` with the streamer at `p`: a PENDING slot stands at the write index
and targets the interval after the one in progress; a PLAYING slot stands there, or just before it when a PENDING
slot does, and is the streamer's source, which is held from such a slot only (R133, R134, R137). -/
structure PlanRing.Sound (r : PlanRing) (n : Num) (p : Play) : Prop where
  pending : ∀ i q, r.slot i = .pending q → i = r.writeIndex ∧ q.target = n + 2
  playing : ∀ i q, r.slot i = .playing q →
    (if r.hasPending then i + 1 = r.writeIndex else i = r.writeIndex) ∧ p.source = some q.triple
  source : p.source ≠ none → ∃ i q, r.slot i = .playing q

theorem slotSound_iff {i : Fin 4} {x : Slot} :
    SlotSound s i x
      ↔ (∀ q, x = .pending q → i = s.plan.writeIndex ∧ q.target = s.acq.closeNumber + 2)
        ∧ ∀ q, x = .playing q →
          (if s.plan.hasPending then i + 1 = s.plan.writeIndex else i = s.plan.writeIndex)
            ∧ s.streamer.play.source = some q.triple := by
  cases x <;> simp [SlotSound]

theorem ringLaw_iff :
    RingLaw s ↔ s.plan.Sound s.acq.closeNumber s.streamer.play
      ∧ ∀ r, s.engine.run = some r → r.number = s.acq.closeNumber ∧ s.plan.hasPending = false := by
  simp only [RingLaw, slotSound_iff]
  refine ⟨fun ⟨hslots, hrun, hsource⟩ => ⟨⟨fun i => (hslots i).1, fun i => (hslots i).2, hsource⟩, hrun⟩,
    fun ⟨hsound, hrun⟩ => ⟨fun i => ⟨hsound.pending i, hsound.playing i⟩, hrun, hsound.source⟩⟩

/-- An empty ring and a streamer in IDLE keep the law at every close number. -/
theorem PlanRing.sound_of_empty (h : ∀ i, r.slot i = .empty) :
    r.Sound n .idle ∧ r.hasPending = false :=
  ⟨⟨fun i q hq => by simp [h] at hq, fun i q hq => by simp [h] at hq, fun hn => absurd rfl hn⟩,
    PlanRing.hasPending_eq_false.mpr fun i q => by simp [h]⟩

namespace PlanRing.Sound

/-- One slot is PENDING at most (R133). -/
theorem pending_unique (h : r.Sound n p) {i j : Fin 4} {q x : Plan} (hi : r.slot i = .pending q)
    (hj : r.slot j = .pending x) : i = j := (h.pending i q hi).1.trans (h.pending j x hj).1.symm

/-- One slot is PLAYING at most (R137). -/
theorem playing_unique (h : r.Sound n p) {i j : Fin 4} {q x : Plan} (hi : r.slot i = .playing q)
    (hj : r.slot j = .playing x) : i = j := by
  have hwi := (h.playing i q hi).1
  have hwj := (h.playing j x hj).1
  split at hwi
  · next hp => rw [if_pos hp] at hwj; exact add_right_cancel (hwi.trans hwj.symm)
  · next hp => rw [if_neg hp] at hwj; exact hwi.trans hwj.symm

/-- A write fills the EMPTY slot after the one at the write index, and the PLAYING slot is then just before the
PENDING one (R134). -/
theorem write (h : r.Sound n p) (hnone : r.hasPending = false) (mode : PlanMode) (x : Triple) :
    (r.write (n + 2) mode x).Sound n p := by
  obtain ⟨hindex, -, hslot⟩ := r.write_effect (n + 2) mode x
  have hpending := PlanRing.hasPending_iff.mpr ⟨_, _, (hslot (r.writeIndex + 1)).trans (if_pos rfl)⟩
  have hplaying : ∀ i q, r.slot i = .playing q → i = r.writeIndex ∧ p.source = some q.triple :=
    fun i q hq => by simpa [hnone] using h.playing i q hq
  refine ⟨fun i q hq => ?_, fun i q hq => ?_, fun hs => ?_⟩
  · rw [hslot] at hq
    split at hq
    · next hi => exact ⟨hi.trans hindex.symm, by cases hq; rfl⟩
    · exact absurd hq (PlanRing.hasPending_eq_false.mp hnone i q)
  · rw [hslot] at hq
    split at hq
    · cases hq
    · obtain ⟨hi, hsource⟩ := hplaying i q hq
      exact ⟨by rw [if_pos hpending, hindex, hi], hsource⟩
  · obtain ⟨i, q, hq⟩ := h.source hs
    obtain ⟨rfl, -⟩ := hplaying i q hq
    refine ⟨_, q, (hslot _).trans ((if_neg ?_).trans hq)⟩
    simp

/-- A promotion leaves its slot, the one at the write index, as the only slot that is not EMPTY (R137). -/
theorem promote (h : r.Sound n p) {i : Fin 4} {q : Plan} (hi : r.slot i = .pending q) {m : Num} {p' : Play}
    (hp : p'.source = some q.triple) : (r.promote i q).Sound m p' ∧ (r.promote i q).hasPending = false := by
  have hnone : (r.promote i q).hasPending = false := PlanRing.hasPending_eq_false.mpr fun j x hj => by
    rw [PlanRing.slot_promote] at hj
    split at hj
    · cases hj
    · next hne => exact hne (h.pending_unique (Slot.endPlay_eq_pending.mp hj) hi)
  refine ⟨⟨fun j x hj => absurd hj (PlanRing.hasPending_eq_false.mp hnone j x), fun j x hj => ?_,
    fun _ => ⟨i, q, by simp⟩⟩, hnone⟩
  rw [PlanRing.slot_promote] at hj
  split at hj
  · next hji =>
    cases hj
    rw [hnone, PlanRing.promote_writeIndex, hji]
    exact ⟨(h.pending i q hi).1, hp⟩
  · exact absurd hj (Slot.endPlay_ne_playing _ _)

/-- Without a PENDING slot the close number does not matter, and the source may stand. -/
theorem of_no_pending (h : r.Sound n p) (hnone : r.hasPending = false) {m : Num} {p' : Play}
    (hp : p'.source = p.source) : r.Sound m p' :=
  ⟨fun i q hq => absurd hq (PlanRing.hasPending_eq_false.mp hnone i q), hp ▸ h.playing, hp ▸ h.source⟩

end PlanRing.Sound

/-- A boundary that bridges keeps the source (R136). -/
theorem Play.source_onNone_of_carrying (h : p.carrying = true) : p.onNone.source = p.source := by
  cases p with
  | idle | fading => cases h
  | ramping | playing | holding => rfl

/-- A boundary uses up the PENDING slot, whose interval begins at it, and hands the law on to the next close
number (R136, R137). -/
theorem PlanRing.Sound.boundary (h : r.Sound n y.play) :
    (boundary (n + 1 + 1) r y).1.Sound (n + 1) (boundary (n + 1 + 1) r y).2.play
      ∧ (boundary (n + 1 + 1) r y).1.hasPending = false := by
  have hn : n + 1 + 1 = n + 2 := BitVec.add_assoc n 1 1
  have hnone : r.find (n + 1 + 1) = none → ∀ i q, r.slot i ≠ .pending q := fun hf i q hq =>
    PlanRing.find_none hf i q hq ((h.pending i q hq).2.trans hn.symm)
  obtain ⟨i, q, hf, -, e⟩ | ⟨i, q, hf, -, -, e⟩ | ⟨i, q, hf, -, -, e⟩ | ⟨hf, hc, e⟩ | ⟨hf, -, e⟩ :=
    boundary_cases (n + 1 + 1) r y <;> rw [e]
  · exact h.promote (PlanRing.find_some hf).1 (Play.source_onNormal _ _)
  · exact h.promote (PlanRing.find_some hf).1 rfl
  · refine PlanRing.sound_of_empty fun j => ?_
    rw [PlanRing.slot_rest_discard]
    split
    · rfl
    · next hj =>
      exact Slot.endPlay_eq_empty fun x hx => hj (h.pending_unique hx (PlanRing.find_some hf).1)
  · have hpending := PlanRing.hasPending_eq_false.mpr (hnone hf)
    exact ⟨h.of_no_pending hpending (Play.source_onNone_of_carrying hc), hpending⟩
  · exact PlanRing.sound_of_empty fun j => by
      rw [PlanRing.slot_rest, Slot.endPlay_eq_empty (hnone hf j)]

/-- A plan-slot write of a run keeps the law, where the run is that of the latest close (R134, R137). -/
theorem PlanRing.Sound.planWrite (h : r.Sound n p) (hnone : r.hasPending = false) (b a : StationState)
    (counted : Bool) (x : Option Triple) : (planWrite b a counted n x r).Sound n p := by
  obtain ⟨-, -, y, -, e⟩ | ⟨-, -, y, -, e⟩ | e := planWrite_cases b a counted n x r <;> rw [e]
  · exact h.write hnone .fade y
  · exact h.write hnone .normal y
  · exact h

/-! ## Every step keeps the law -/

/-- An expiry leaves ring and streamer, or stops both where it declares silence (R139, R153). -/
theorem State.expire_ring (s : State) (codes : Channels Code) :
    ((s.expire codes).plan = s.plan ∧ (s.expire codes).streamer = s.streamer)
      ∨ ((s.expire codes).plan = s.plan.clear ∧ (s.expire codes).streamer.play = .idle) := by
  cases hd : s.link.declares with
  | false => rw [State.expire_eq s codes hd]; exact .inl ⟨rfl, rfl⟩
  | true => rw [State.expire_declared s codes hd]; exact .inr ⟨rfl, rfl⟩

/-- A status word leaves ring and streamer, or stops both where it reports a trip (R139, R155). -/
theorem State.takeStatus_ring (s : State) (word : BitVec 24) :
    ((s.takeStatus word).plan = s.plan ∧ (s.takeStatus word).streamer = s.streamer)
      ∨ ((s.takeStatus word).plan = s.plan.clear ∧ (s.takeStatus word).streamer.play = .idle) := by
  unfold State.takeStatus
  split
  · exact .inr ⟨rfl, rfl⟩
  · exact .inl ⟨rfl, rfl⟩

theorem RingLaw.of_eq (h : RingLaw s) (hp : t.plan = s.plan) (hs : t.streamer = s.streamer)
    (hn : t.acq.closeNumber = s.acq.closeNumber) (he : t.engine.run = s.engine.run) : RingLaw t := by
  rw [ringLaw_iff] at h ⊢
  rwa [hp, hs, hn, he]

/-- An immediate stop leaves an empty ring and a streamer in IDLE (R139). -/
theorem RingLaw.stopped (h : RingLaw s) (hp : t.plan = s.plan.clear) (hs : t.streamer.play = .idle)
    (hn : t.acq.closeNumber = s.acq.closeNumber) (he : t.engine.run = s.engine.run) : RingLaw t := by
  obtain ⟨hsound, hpending⟩ := PlanRing.sound_of_empty (r := t.plan) (fun i => by rw [hp, PlanRing.slot_clear])
  refine ringLaw_iff.mpr ⟨hs ▸ hsound, fun r hr => ⟨?_, hpending⟩⟩
  rw [hn]
  exact ((ringLaw_iff.mp h).2 r (he ▸ hr)).1

theorem resets_ringLaw {c : Instr} (h : Resets s c t) : RingLaw t := by
  obtain ⟨hsound, -⟩ := PlanRing.sound_of_empty (r := PlanRing.reset) (n := 0)
    (fun i => by fin_cases i <;> rfl)
  cases h <;> exact ringLaw_iff.mpr ⟨hsound, nofun⟩

/-- The run that a close starts is that of the close (R14, R35). -/
theorem startRun_number {w : Option (BankId × BankId)} {k : Num} {told : BitVec 16} {e : Engine} {x : Run}
    (he : e.run = none) (h : (startRun e w k told).run = some x) : x.number = k := by
  cases w with
  | none => exact nomatch he.symm.trans h
  | some w => cases h; rfl

/-- A close hands the PENDING slot to the streamer and raises the close number, a completion writes the next one,
and the stops only empty (R87, R134, R137, R139). -/
theorem RingLaw.acts (h : RingLaw s) (a : Acts s t) : RingLaw t := by
  obtain ⟨hsound, hrun⟩ := ringLaw_iff.mp h
  cases a with
  | nothing | off | listen | line | sent => exact h
  | copied | received | merged => exact h.of_eq (by simp) (by simp) (by simp) (by simp)
  | silence | badImage | conflict => exact h.stopped rfl rfl rfl rfl
  | expiry codes =>
    have hn : (s.expire codes).acq.closeNumber = s.acq.closeNumber := by rw [State.expire_acq]; rfl
    obtain ⟨hp, hs⟩ | ⟨hp, hs⟩ := s.expire_ring codes
    · exact h.of_eq hp hs hn (by simp)
    · exact h.stopped hp hs hn (by simp)
  | status word =>
    obtain ⟨hp, hs⟩ | ⟨hp, hs⟩ := s.takeStatus_ring word
    · exact h.of_eq hp hs (by simp) (by simp)
    · exact h.stopped hp hs (by simp) (by simp)
  | scan sc check _ hp => exact h.of_eq rfl rfl (by simp [hp]) rfl
  | deadline sc check _ hp => exact h.of_eq rfl rfl (by simp [hp]) rfl
  | close sc v check quench _ _ hp he =>
    obtain ⟨hsound', hpending⟩ := hsound.boundary
    refine ringLaw_iff.mpr ⟨?_, fun x hx => ⟨?_, ?_⟩⟩
    · simpa [hp] using hsound'
    · exact startRun_number he hx
    · simpa [hp] using hpending
  | run x v hx =>
    obtain ⟨hnumber, hpending⟩ := hrun x hx
    exact ringLaw_iff.mpr ⟨hnumber ▸ hsound.planWrite hpending _ _ _ _, nofun⟩
  | runInFault => exact ringLaw_iff.mpr ⟨hsound, nofun⟩

/-- Settles O50, along the kinds of commands; the two slots are unique by their places about the write index. -/
theorem ringLawKept : Obligations.RingLawKept := by
  intro s t hs h
  have ht : RingLaw t := kept_of_acts (fun _ _ h => h) (fun _ _ _ => resets_ringLaw) (fun _ _ h a => h.acts a) hs h
  obtain ⟨hsound, -⟩ := ringLaw_iff.mp ht
  exact ⟨ht, fun _ _ _ _ => hsound.pending_unique, fun _ _ _ _ => hsound.playing_unique⟩

/-! ## The streamer at rest -/

theorem PlanRing.allEmpty_iff : r.allEmpty ↔ ∀ i, r.slot i = .empty := by
  simp only [PlanRing.allEmpty, Fin.forall_fin_succ]
  simp [PlanRing.slot]

theorem boundary_none (hf : r.find n = none) :
    boundary n r y
      = (if y.play.carrying then r else r.rest,
         { play := y.play.onNone
           underruns := if y.play.underrunsNext then bump 255 y.underruns else y.underruns }) := by
  simp [boundary, hf]

/-- A boundary that finds an empty ring and a streamer in IDLE leaves both (R136). -/
theorem boundary_of_empty (h : ∀ i, r.slot i = .empty) (hy : y.play = .idle) :
    boundary n r y = (r, y) := by
  have hnone : r.find n = none := PlanRing.find_eq_none fun i q hq => nomatch (h i).symm.trans hq
  have hrest : r.rest = r := PlanRing.ext_slots (fun j => by rw [r.slot_rest, h]; rfl) rfl rfl
  rw [boundary_none hnone, hrest, ite_self]
  simp only [hy, Play.onNone, Play.underrunsNext, Bool.false_eq_true, if_false]
  rw [← hy]

/-- A completion outside ACTIVE that does not lead into it writes nothing (R87, R88). -/
theorem planWrite_of_not_active {b a : StationState} (hb : b ≠ .active) (ha : a ≠ .active) (counted : Bool)
    (k : Num) (x : Option Triple) (r : PlanRing) : planWrite b a counted k x r = r :=
  (if_neg fun h => hb h.1).trans (if_neg fun h => ha h.1)

/-- A completion that does not end in ACTIVE or HOLD keeps the station state (R168 to R170). -/
theorem State.completeRun_stays {v : Setup} {x : Run} (ha : (s.completeRun v x).station.state ≠ .active)
    (hh : (s.completeRun v x).station.state ≠ .hold) :
    (s.completeRun v x).station.state = s.station.state := by
  obtain ⟨lock, c, e⟩ := s.completeRun_station v x
  rw [e] at ha hh ⊢
  obtain ⟨-, ⟨hstay, -⟩ | ⟨⟨-, hm⟩ | ⟨-, hm⟩ | ⟨-, hm⟩, -⟩⟩ := s.station.evaluate_cases v lock c
  · exact hstay
  · exact absurd hm ha
  · exact absurd hm hh
  · exact absurd hm ha

theorem IdleOutside.of_eq (h : IdleOutside s) (hst : t.station.state = s.station.state) (hp : t.plan = s.plan)
    (hs : t.streamer = s.streamer) : IdleOutside t := by
  unfold IdleOutside
  rwa [hst, hp, hs]

/-- An immediate stop leaves nothing to play, in every station state (R139). -/
theorem idleOutside_of_stopped (hp : t.plan = s.plan.clear) (hs : t.streamer.play = .idle) : IdleOutside t :=
  fun _ _ => ⟨hs, PlanRing.allEmpty_iff.mpr fun i => by rw [hp, PlanRing.slot_clear]⟩

theorem resets_idleOutside {c : Instr} (h : Resets s c t) : IdleOutside t := by
  cases h <;> exact fun _ _ => ⟨rfl, rfl, rfl, rfl, rfl⟩

/-- A close finds nothing to play, and a completion writes into the ring only on a way into, within, or out of
ACTIVE (R87, R88, R136, R147). -/
theorem IdleOutside.acts (h : IdleOutside s) (a : Acts s t) : IdleOutside t := by
  cases a with
  | nothing | scan | deadline | runInFault | line | sent => exact h
  | copied | received | merged => exact h.of_eq (by simp) (by simp) (by simp)
  | off p w x hoff => exact fun _ _ => h (by simp [hoff]) (by simp [hoff])
  | listen p image v hs => exact fun _ _ => h (by simp [hs]) (by simp [hs])
  | silence | badImage | conflict => exact idleOutside_of_stopped rfl rfl
  | expiry codes =>
    obtain ⟨hp, hs⟩ | ⟨hp, hs⟩ := s.expire_ring codes
    · exact h.of_eq (by simp) hp hs
    · exact idleOutside_of_stopped hp hs
  | status word =>
    obtain ⟨hp, hs⟩ | ⟨hp, hs⟩ := s.takeStatus_ring word
    · exact h.of_eq (by simp) hp hs
    · exact idleOutside_of_stopped hp hs
  | close sc v check quench =>
    intro ha hh
    obtain ⟨hidle, hempty⟩ := h ha hh
    simp [boundary_of_empty (PlanRing.allEmpty_iff.mp hempty) hidle, hidle, hempty]
  | run x v _ _ _ hl =>
    intro ha hh
    have hstay := State.completeRun_stays ha hh
    have hplan : (s.completeRun v x).plan = s.plan := planWrite_of_not_active (hstay ▸ ha) ha _ _ _ _
    rw [hplan]
    exact h (hstay ▸ ha) (hstay ▸ hh)

/-- Settles O51, along the kinds of commands, with the two laws it stands beside. -/
theorem idleOutsideKept : Obligations.IdleOutsideKept := by
  intro s t
  refine kept_of_acts (P := fun s => RestsInOff s ∧ CountedOnlyActive s ∧ IdleOutside s) (fun _ _ h => h)
    (fun _ _ _ h => ⟨resets_restsInOff h, resets_countedOnlyActive h, resets_idleOutside h⟩)
    (fun _ _ h a => ?_)
  obtain ⟨hrest, hcount, hidle⟩ := h
  exact ⟨hrest.acts a, hcount.acts hrest a, hidle.acts a⟩

end Sys2Proof.Machine
end

section
/-! The boundary at a close: the table of R136 with the slot changes of R137 and the underrun count of R138. -/

namespace Sys2Proof.Machine

open Sys2Proof

variable {s : State} {r : PlanRing} {y : Streamer} {n : Num}

@[simp] theorem PlanRing.promote_latest (r : PlanRing) (i : Fin 4) (q : Plan) :
    (r.promote i q).latest = r.latest := r.rest.setSlot_latest i _

/-- A boundary moves neither the write index nor the latest-write record (R137). -/
theorem boundary_kept (n : Num) (r : PlanRing) (y : Streamer) :
    (boundary n r y).1.writeIndex = r.writeIndex ∧ (boundary n r y).1.latest = r.latest := by
  obtain ⟨i, q, -, -, e⟩ | ⟨i, q, -, -, -, e⟩ | ⟨i, q, -, -, -, e⟩ | ⟨-, -, e⟩ | ⟨-, -, e⟩ :=
    boundary_cases n r y <;> rw [e]
  · simp
  · simp
  · exact ⟨r.rest.setSlot_writeIndex i _, r.rest.setSlot_latest i _⟩
  · exact ⟨rfl, rfl⟩
  · exact ⟨rfl, rfl⟩

theorem boundary_normal {i : Fin 4} {q : Plan} (hf : r.find n = some (i, q)) (hm : q.mode = .normal) :
    boundary n r y = (r.promote i q, { y with play := y.play.onNormal q.triple }) := by
  simp [boundary, hf, hm]

theorem boundary_fade {i : Fin 4} {q : Plan} (hf : r.find n = some (i, q)) (hm : q.mode = .fade) :
    boundary n r y
      = (if y.play.carrying then r.promote i q else r.rest.discard i,
         { y with play := y.play.onFade q.triple }) := by
  simp [boundary, hf, hm]

/-- The ring and the streamer after a close are those of the boundary that begins its next interval (R10, R136). -/
theorem close_boundary {check : Code} {quench : Bool} {sc : Scan} (hs : s.acq.scan = some sc)
    (hsetup : s.station.setup.isSome = true) (hp : sc.index.toNat % 32 = 31) (hrun : s.engine.run = none)
    (hcopy : ∀ w, s.peers.work ≠ .copy w) :
    ∃ t, exec (.scanCompletion check quench) s = .next t
      ∧ (t.plan, t.streamer) = boundary (s.acq.closeNumber + 2) s.plan s.streamer := by
  obtain ⟨v, hv⟩ := Option.isSome_iff_exists.mp hsetup
  have hn : s.acq.closeNumber + 1 + 1 = s.acq.closeNumber + 2 := BitVec.add_assoc _ 1 1
  have hp' : intervalPosition sc.index = 31 := hp
  refine ⟨_, scanCompletion_eq hs hv fun _ => ⟨hrun, hcopy⟩, ?_⟩
  rw [State.afterScan_eq_close _ _ _ hp', ← hn]
  simp [hp']

/-- Settles O19, along the slot that the boundary finds and the streamer's state before it. -/
theorem closeMovesStreamer : Obligations.CloseMovesStreamer := by
  intro check quench s sc hs hsetup hp hrun hcopy target rest kept
  have hrest : ∀ x, rest x = x.endPlay := fun x => by cases x <;> rfl
  obtain ⟨t, hnext, hb⟩ := close_boundary (check := check) (quench := quench) hs hsetup hp hrun hcopy
  have hkept := boundary_kept target s.plan s.streamer
  refine ⟨t, hnext, ?_, fun i q hi hq huniq => ?_, fun hnone => ?_⟩
  · rwa [← hb] at hkept
  · have hf : s.plan.find target = some (i, q) := PlanRing.find_unique hi hq huniq
    simp only [hrest]
    cases hm : q.mode with
    | normal =>
      obtain ⟨hplan, hstreamer⟩ := Prod.ext_iff.mp (hb.trans (boundary_normal hf hm))
      simp only at hplan hstreamer
      rw [hplan, hstreamer]
      refine ⟨rfl, fun _ => ⟨fun j => PlanRing.slot_promote _ _ _ _, ?_⟩, nofun⟩
      cases s.streamer.play <;> rfl
    | fade =>
      obtain ⟨hplan, hstreamer⟩ := Prod.ext_iff.mp (hb.trans (boundary_fade hf hm))
      simp only at hplan hstreamer
      rw [hplan, hstreamer]
      refine ⟨rfl, nofun, fun _ => ?_⟩
      cases s.streamer.play with
      | idle | fading => exact ⟨rfl, fun j => PlanRing.slot_rest_discard _ _ _⟩
      | ramping | playing | holding => exact ⟨rfl, fun j => PlanRing.slot_promote _ _ _ _⟩
  · obtain ⟨hplan, hstreamer⟩ := Prod.ext_iff.mp (hb.trans (boundary_none (PlanRing.find_eq_none hnone)))
    simp only at hplan hstreamer
    simp only [hrest]
    rw [hplan, hstreamer]
    cases hplay : s.streamer.play with
    | idle | fading => exact ⟨rfl, fun j => PlanRing.slot_rest _ _⟩
    | ramping | playing | holding => exact ⟨rfl, rfl⟩

end Sys2Proof.Machine
end

section
/-! The reference streamer's scan: the triple played by ramp and fade, the synthesis, the output conversion, and
the reference word that carries them (8.5, 8.6, 9.1). -/

namespace Sys2Proof.Machine

open Sys2Proof

variable {s t : State} {p : Play} {x : Triple}

/-! ## The output values of a scan -/

/-- With a source triple, the values of a scan are synthesized from it by the factor of the scan (R141). -/
theorem outputValues_of_source (h : p.source = some x) (index : BitVec 6) :
    outputValues p index
      = (phaseSamples (applyFactor x (playFactor p (index.toNat % 32 + 1))) (tableIndex index)).map
          outputValue := by
  rw [outputValues, h]

/-- The zero triple is played as three zero values (R146). -/
theorem phaseSamples_zero (i : Nat) : (phaseSamples ⟨0, 0, 0⟩ i).map outputValue = ⟨0, 0, 0⟩ := by
  have hzero : ∀ a b c, phaseSample ⟨0, 0, 0⟩ a b c = 0 := fun a b c => by simp [phaseSample]; decide
  simp only [phaseSamples, Phases.map, hzero]
  decide

/-- An output value is its sample divided by 256, to the nearest integer with halves to even, saturated to 16
bits (R145). -/
theorem outputValue_nearest (v : Frac) :
    ∃ y : Int, 2 * (y * 256 - v.toInt) ≤ 256 ∧ 2 * (v.toInt - y * 256) ≤ 256
      ∧ (2 * (y * 256 - v.toInt) = 256 ∨ 2 * (v.toInt - y * 256) = 256 → y % 2 = 0)
      ∧ (outputValue v).toInt = max (-32768) (min y 32767) := by
  obtain ⟨habove, hbelow, heven⟩ := roundHalfEven_nearest v.toInt 8
  exact ⟨_, habove, hbelow, heven, toInt_outputValue v⟩

/-- A factor below 65,536 enlarges neither a part of a triple nor its measure (R45, R141). -/
theorem scaleTriple_le (x : Triple) {k : Nat} (hk : k ≤ 65535) :
    (scale x.q k).toInt.natAbs ≤ x.q.toInt.natAbs ∧ (scale x.re k).toInt.natAbs ≤ x.re.toInt.natAbs
      ∧ (scale x.im k).toInt.natAbs ≤ x.im.toInt.natAbs ∧ measure (scaleTriple x k) ≤ measure x := by
  have hpart : ∀ y : Frac, (scale y k).toInt.natAbs ≤ y.toInt.natAbs := fun y => by
    rw [natAbs_scale y hk]
    exact mul_div_factor_le hk _
  refine ⟨hpart _, hpart _, hpart _, measure_scaleTriple_le hk ?_⟩
  rw [Nat.mul_comm]
  exact Nat.mul_le_mul_left _ (by omega)

/-- Settles O54: every state plays one triple, its source by the factor of the scan position, and the synthesis
of a triple is that of the model. -/
theorem rampAndFade : Obligations.RampAndFade := by
  intro x index m out sn cs red sm cm sp cp converts plays scaled
  have hplays : ∀ z, plays z ((phaseSamples z (tableIndex index)).map outputValue) := fun z =>
    ⟨outputValue_nearest _, outputValue_nearest _, outputValue_nearest _⟩
  have hout : ∀ p : Play, p.source = some x →
      plays (applyFactor x (playFactor p m)) (out p) := fun p hp => by
    change plays _ (outputValues p index)
    rw [outputValues_of_source hp]
    exact hplays _
  refine ⟨rfl, hout (.playing x) rfl, hout (.holding x) rfl, fun hm => ?_, fun hm => ⟨?_, ?_⟩,
    hout (.fading x) rfl, fun n hn => scaleTriple_le x hn⟩
  · have hfactor : playFactor (.ramping x) m = some (2048 * m) := if_neg (Nat.ne_of_lt hm)
    have h := hout (.ramping x) rfl
    rwa [hfactor] at h
  · have hfactor : playFactor (.ramping x) m = none := if_pos hm
    have h := hout (.ramping x) rfl
    rwa [hfactor] at h
  · have hzero : applyFactor x (playFactor (.fading x) m) = ⟨0, 0, 0⟩ := by
      simp [playFactor, hm, applyFactor, scaleTriple, scale_zero]
    change outputValues (.fading x) index = _
    rw [outputValues_of_source rfl]
    change (phaseSamples (applyFactor x (playFactor (.fading x) m)) _).map outputValue = _
    rw [hzero, phaseSamples_zero]

/-! ## The size of an output value -/

/-- Rounding keeps a bound that is a whole number of units. -/
theorem natAbs_roundHalfEven_le {a : Int} {k m : Nat} (h : a.natAbs ≤ m * 2 ^ k) :
    (roundHalfEven a k).natAbs ≤ m := by
  obtain ⟨habove, hbelow, -⟩ := roundHalfEven_nearest a k
  have hpos : (0 : Int) < 2 ^ k := by positivity
  zify at h
  obtain ⟨hlow, hhigh⟩ := abs_le.mp h
  generalize (2 : Int) ^ k = u at *
  generalize roundHalfEven a k = y at *
  have h1 : y < m + 1 := lt_of_mul_lt_mul_right (by nlinarith) hpos.le
  have h2 : -(m + 1 : Int) < y := lt_of_mul_lt_mul_right (by nlinarith) hpos.le
  omega

theorem natAbs_clamp_le {lo hi a : Int} (hl : lo ≤ 0) (hh : 0 ≤ hi) : (clamp lo hi a).natAbs ≤ a.natAbs := by
  unfold clamp
  omega

/-- An accumulator within a whole number of codes reduces to a code within that number (R43). -/
theorem natAbs_reduce_le {acc : Int} {m : Nat} (h : acc.natAbs ≤ m * 2 ^ 23) :
    (reduce acc).val.toInt.natAbs ≤ m := by
  have hval : (reduce acc).val.toInt = clamp fracMin fracMax (roundHalfEven acc 23) := toInt_satFrac _
  rw [hval]
  exact (natAbs_clamp_le (by decide) (by decide)).trans (natAbs_roundHalfEven_le h)

theorem natAbs_outputValue_le {v : Frac} {m : Nat} (h : v.toInt.natAbs ≤ m * 2 ^ 8) :
    (outputValue v).toInt.natAbs ≤ m := by
  rw [toInt_outputValue]
  exact (natAbs_clamp_le (by decide) (by decide)).trans (natAbs_roundHalfEven_le h)

/-- Two codes that multiply the parts of a negative-sequence component lie on the circle of full scale, and so
does the code that multiplies the positive-sequence part, up to two codes of rounding (R143). -/
abbrev OnCircle (c a b : Int) : Prop := c.natAbs ≤ 8388610 ∧ a ^ 2 + b ^ 2 ≤ 8388610 ^ 2

/-- The codes of the three phases at each of the 64 cycle indices (R18, R143). -/
theorem onCircle_of_cycle : ∀ j < 64,
    OnCircle (cosine (4 * j)) (sine (4 * j)) (cosine (4 * j))
      ∧ OnCircle (cosineMinus (4 * j)).toInt (sinePlus (4 * j)).toInt (cosinePlus (4 * j)).toInt
      ∧ OnCircle (cosinePlus (4 * j)).toInt (sineMinus (4 * j)).toInt (cosineMinus (4 * j)).toInt := by
  decide +kernel

/-- The projection of a pair on another is at most the product of their magnitudes. -/
theorem abs_mul_add_mul_le {a b c d m k : Int} (hm : 0 ≤ m) (hk : 0 ≤ k) (h1 : a ^ 2 + b ^ 2 ≤ m ^ 2)
    (h2 : c ^ 2 + d ^ 2 ≤ k ^ 2) : |a * c + b * d| ≤ m * k := by
  refine abs_le_of_sq_le_sq ?_ (mul_nonneg hm hk)
  calc (a * c + b * d) ^ 2 ≤ (a ^ 2 + b ^ 2) * (c ^ 2 + d ^ 2) := by
        linarith only [sq_nonneg (a * d - b * c)]
    _ ≤ m ^ 2 * k ^ 2 := mul_le_mul h1 h2 (by positivity) (by positivity)
    _ = (m * k) ^ 2 := by ring

/-- The magnitude of a pair is below its M-norm plus one (R47). -/
theorem sq_add_sq_le_mnorm (a b : Int) : a ^ 2 + b ^ 2 ≤ ((mnorm a b : Int) + 1) ^ 2 := by
  obtain ⟨-, -, hsqrt, -⟩ := mNormBounds a b
  have hlt := Nat.sqrt_lt'.mp (Nat.lt_succ_of_le hsqrt)
  zify at hlt
  simpa using hlt.le

/-- A triple within the bound of the largest limit gives samples within 4,178,000 (R82, R144). -/
theorem natAbs_phaseSample_le (h : TripleBounded x) {c a b : Int} (hc : OnCircle c a b) :
    (phaseSample x c a b).toInt.natAbs ≤ 4178000 := by
  obtain ⟨hpos, hneg⟩ := hc
  refine natAbs_reduce_le ?_
  have hpair := abs_mul_add_mul_le (by positivity) (by norm_num)
    (sq_add_sq_le_mnorm x.re.toInt x.im.toInt) hneg
  have hquad : |x.q.toInt * c| ≤ |x.q.toInt| * 8388610 := by
    rw [abs_mul]
    exact mul_le_mul_of_nonneg_left (by zify at hpos; exact hpos) (abs_nonneg _)
  unfold TripleBounded at h
  zify at h ⊢
  rw [add_assoc]
  have hadd := abs_add_le (x.q.toInt * c) (x.re.toInt * a + x.im.toInt * b)
  omega

/-- The factors of ramp and fade are below 65,536 (R142). -/
theorem playFactor_le {m k : Nat} (hm : 1 ≤ m) (hm' : m ≤ 32) (h : playFactor p m = some k) : k ≤ 65535 := by
  cases p with
  | idle | playing | holding => cases h
  | ramping =>
    obtain ⟨-, h⟩ | ⟨hne, h⟩ := ite_eq_iff.mp h
    · cases h
    · have := Option.some.inj h
      omega
  | fading =>
    have := Option.some.inj h
    omega

/-- A state with a bounded source plays a bounded triple at every scan (R82, R142). -/
theorem tripleBounded_applyFactor (h : TripleBounded x) (p : Play) {m : Nat} (hm : 1 ≤ m) (hm' : m ≤ 32) :
    TripleBounded (applyFactor x (playFactor p m)) := by
  cases hf : playFactor p m with
  | none => exact h
  | some k =>
    obtain ⟨-, -, -, hle⟩ := scaleTriple_le x (playFactor_le hm hm' hf)
    exact hle.trans h

/-- The output values of a bounded source lie within ±16,400 (R145). -/
theorem outputValues_within (h : p.Bounded) (index : BitVec 6) {v : Code}
    (hv : v = (outputValues p index).a ∨ v = (outputValues p index).b ∨ v = (outputValues p index).c) :
    v.toInt.natAbs ≤ 16400 := by
  cases hs : p.source with
  | none =>
    have hzero : outputValues p index = ⟨0, 0, 0⟩ := by rw [outputValues, hs]
    rw [hzero] at hv
    rcases hv with rfl | rfl | rfl <;> decide
  | some x =>
    have hx := tripleBounded_applyFactor (h x hs) p (m := index.toNat % 32 + 1) (by omega) (by omega)
    obtain ⟨ha, hb, hc⟩ := onCircle_of_cycle index.toNat index.isLt
    have hvalue : ∀ {c a b : Int}, OnCircle c a b →
        (outputValue (phaseSample (applyFactor x (playFactor p (index.toNat % 32 + 1))) c a b)).toInt.natAbs
          ≤ 16400 := fun hcircle =>
      natAbs_outputValue_le ((natAbs_phaseSample_le hx hcircle).trans (by norm_num))
    rw [outputValues_of_source hs] at hv
    rcases hv with rfl | rfl | rfl
    · exact hvalue ha
    · exact hvalue hb
    · exact hvalue hc

/-! ## The reference word -/

/-- Mode and enable of a reference word agree, and no mode code is past 4 (R146, R180). -/
theorem modeCode_enableMark (p : Play) :
    (modeCode p = 0 ↔ enableMark p = false) ∧ (modeCode p).toNat ≤ 4
      ∧ (enableMark p = true ↔ p ≠ .idle) := by
  cases p <;> simp [modeCode, enableMark]

/-- Settles O53: the word of an expiry is that of the streamer's state and the outgoing sequence. -/
theorem referenceWordRelations : Obligations.ReferenceWordRelations := by
  intro codes s t hbounded hr h
  obtain ⟨-, hplay⟩ := planBounded_iff.mp hbounded
  obtain ⟨-, -, rfl⟩ | ⟨hn, -⟩ := sampleTimerExpiry_next h
  · obtain ⟨hmode, hcode, henable⟩ := modeCode_enableMark s.streamer.play
    rw [State.expire_link]
    refine ⟨refWord s.streamer.play s.link.seq (outputValues s.streamer.play s.acq.next), rfl, hmode,
      fun he => ?_, hcode, henable, fun v hv => ?_, rfl, rfl, rfl, rfl⟩
    · have hidle : s.streamer.play = .idle := not_not.mp fun hne => nomatch he.symm.trans (henable.mpr hne)
      rw [hidle]
      rfl
    · have := outputValues_within hplay s.acq.next hv
      omega
  · exact nomatch hr.symm.trans hn

end Sys2Proof.Machine
end

section
/-! The module link: status words, and silence in both orders about its expiry (9.2). -/

namespace Sys2Proof.Machine

open Sys2Proof

variable {s t : State} {l m : ModuleLink}

/-! ## A status word -/

/-- A word is good by its length, its CRC-8 and its echo of the sequence sent (R152, R179). -/
theorem statusGood_iff {sent : Option RefWord} {bits : Nat} {word : BitVec 24} :
    statusGood sent bits word = true
      ↔ bits = 24 ∧ crc8 [statusByte word 0, statusByte word 1] = statusByte word 2
        ∧ ∃ w, sent = some w ∧ statusEcho word = w.seq := by
  cases sent <;> simp [statusGood, and_assoc]

/-- A running link takes a good word unless an expiry is due (R152). -/
theorem ModuleLink.takes_iff (h : l.running = true) {bits : Nat} {word : BitVec 24} :
    l.takes bits word = true ↔ l.expiryDue = false ∧ statusGood l.word bits word = true := by
  simp [ModuleLink.takes, h]

theorem statusArrival_of_taken {bits : Nat} {word : BitVec 24} (h : s.link.takes bits word = true) :
    exec (.statusArrival bits word) s = .next (s.takeStatus word) := by
  simp [exec, execStatusArrival, h]

theorem statusArrival_of_ignored {bits : Nat} {word : BitVec 24} (h : s.link.takes bits word = false) :
    exec (.statusArrival bits word) s = .next s := by
  simp [exec, execStatusArrival, h]

/-- Settles O55: a word is taken or ignored, and a word taken stops the streamer where it reports a trip. -/
theorem statusWord : Obligations.StatusWord := by
  intro bits word s hr b0 b1 b2 good taken
  have htakes : s.link.takes bits word = true ↔ good := by
    rw [ModuleLink.takes_iff hr, statusGood_iff]
    exact ⟨fun ⟨hd, hb, hc, hw⟩ => ⟨hb, hc, hd, hw⟩, fun ⟨hb, hc, hd, hw⟩ => ⟨hd, hb, hc, hw⟩⟩
  refine ⟨fun hn => ?_, fun hg htrip => ?_, fun hg htrip => ?_⟩
  · exact statusArrival_of_ignored (Bool.eq_false_iff.mpr (mt htakes.mp hn))
  · have htrip' : statusTripped word = false := htrip
    rw [statusArrival_of_taken (htakes.mpr hg)]
    simp only [State.takeStatus, ModuleLink.takeStatus, htrip', Bool.or_false]
    rfl
  · have htrip' : statusTripped word = true := htrip
    rw [statusArrival_of_taken (htakes.mpr hg)]
    simp only [State.takeStatus, ModuleLink.takeStatus, htrip', Bool.or_true]
    rfl

/-! ## The declaration of silence -/

/-- Silence is declared at an expiry of an unanswered scan that brings the counter to 64, once (R153). -/
theorem ModuleLink.declares_iff :
    l.declares = true ↔ l.word.isSome = true ∧ l.answered = false ∧ 63 ≤ l.silence ∧ l.lost = false := by
  simp [ModuleLink.declares, ModuleLink.unanswered, Config.silenceLimit, and_assoc]

theorem ModuleLink.declares_of_lost (h : l.lost = true) : l.declares = false := by
  simp [ModuleLink.declares, h]

theorem Acquisition.atExpiry_iff {a : Acquisition} :
    a.atExpiry = true ↔ a.running = true ∧ a.scan = none := by simp [Acquisition.atExpiry]

theorem moduleLinkSilence_of_declares (hl : s.link.running = true) (ha : s.acq.atExpiry = true)
    (hd : s.link.declares = true) :
    exec .moduleLinkSilence s = .next (State.stopStreamer { s with link := s.link.declareLost }) := by
  simp [exec, execModuleLinkSilence, hl, ha, hd]

theorem moduleLinkSilence_of_not (h : s.acq.atExpiry = false ∨ s.link.declares = false) :
    exec .moduleLinkSilence s = .next s := by
  rcases h with h | h <;> simp [exec, execModuleLinkSilence, h]

/-- The counter is raised by an unanswered scan and held at 64 (R153). -/
theorem ModuleLink.silenceNext_eq (l : ModuleLink) :
    l.silenceNext = if l.unanswered then min 64 (l.silence + 1) else l.silence := rfl

theorem ModuleLink.unanswered_iff : l.unanswered = true ↔ l.word.isSome = true ∧ l.answered = false := by
  simp [ModuleLink.unanswered]

theorem ModuleLink.silenceNext_of_declares (h : l.declares = true) : l.silenceNext = 64 := by
  obtain ⟨hw, hans, hsil, -⟩ := ModuleLink.declares_iff.mp h
  rw [ModuleLink.silenceNext_eq, if_pos (ModuleLink.unanswered_iff.mpr ⟨hw, hans⟩)]
  omega

theorem ModuleLink.silenceNext_of_limit (h : l.silence = 64) : l.silenceNext = 64 := by
  rw [ModuleLink.silenceNext_eq, h]
  split <;> rfl

theorem sampleTimerExpiry_eq (hr : s.acq.running = true) (hs : s.acq.scan = none) (codes : Channels Code) :
    exec (.sampleTimerExpiry codes) s = .next (s.expire codes) := by
  simp [exec, execSampleTimerExpiry, hr, hs]

/-- An expiry begins a scan, during which nothing is declared (R3, R153). -/
theorem atExpiry_expire (s : State) (codes : Channels Code) : (s.expire codes).acq.atExpiry = false := by
  simp [Acquisition.atExpiry, Acquisition.expire]

/-! ## The lost flag -/

/-- The lost flag stands exactly with the counter at 64, and an expiry is due only with the flag (R153, R154). -/
structure ModuleLink.SilenceSound (l : ModuleLink) : Prop where
  le : l.silence ≤ 64
  lost : l.lost = true ↔ l.silence = 64
  due : l.expiryDue = true → l.lost = true

theorem silenceSound_iff : SilenceSound s ↔ s.link.SilenceSound :=
  ⟨fun ⟨hle, hlost, hdue⟩ => ⟨hle, hlost, hdue⟩, fun ⟨hle, hlost, hdue⟩ => ⟨hle, hlost, hdue⟩⟩

/-- What a command can do to the module link, with the condition under which a status word is taken (R149 to
R158). -/
inductive LinkMove (l : ModuleLink) : ModuleLink → Prop where
  | stays : LinkMove l l
  | reset : LinkMove l .reset
  | start : LinkMove l l.start
  | stop : LinkMove l l.stop
  | expire (p : Play) (v : Phases Code) : LinkMove l (l.expire p v)
  | declare : LinkMove l l.declareLost
  | status (word : BitVec 24) : l.expiryDue = false → LinkMove l (l.takeStatus word)
  | snapshot : LinkMove l l.takeSnapshot
  | trip : LinkMove l l.clearTrip

theorem linkMove_of_scanCompletion {check : Code} {quench : Bool}
    (h : exec (.scanCompletion check quench) s = .next t) : LinkMove s.link t.link := by
  obtain ⟨sc, v, -, -, -, rfl⟩ | rfl := scanCompletion_next h
  · obtain ⟨-, e⟩ | ⟨-, e⟩ | ⟨-, -, e⟩ := afterScan_cases (s.recordScan sc check) v sc.index quench
      <;> rw [e]
    · exact .stays
    · exact .snapshot
    · exact .stays
  · exact .stays

theorem linkMove_of_mergeCompletion (h : exec .mergeCompletion s = .next t) : LinkMove s.link t.link := by
  obtain ⟨i, v, f, -, -, -, rfl⟩ | rfl := mergeCompletion_next h
  · obtain ⟨-, e, -, he⟩ | ⟨-, -, he⟩ | ⟨-, -, he⟩ | ⟨-, -, he⟩ := finishMerge_cases s v i f <;> rw [he]
    · simpa [State.mergeEntry] using .stays
    · simpa using .stays
    · exact .stop
    · simpa using .stays
  · exact .stays

/-- A command makes one move on the module link at most. -/
theorem exec_linkMove {c : Instr} (h : exec c s = .next t) : LinkMove s.link t.link := by
  cases c with
  | powerOn => rw [powerOn_next h]; exact .reset
  | lossOfSupplyGood => rw [lossOfSupplyGood_next h]; exact .reset
  | resetLineAssertion =>
    obtain ⟨-, rfl⟩ | rfl := resetLineAssertion_next h
    · exact .reset
    · exact .stays
  | setupReadCompletion image =>
    obtain ⟨-, v, -, rfl⟩ | ⟨-, -, rfl⟩ | rfl := setupReadCompletion_next h
    · exact .start
    · exact .stop
    · exact .stays
  | sampleTimerExpiry codes =>
    obtain ⟨-, -, rfl⟩ | ⟨-, rfl⟩ := sampleTimerExpiry_next h
    · rw [State.expire_link]; exact .expire _ _
    · exact .stays
  | moduleLinkSilence =>
    obtain ⟨-, -, -, -, rfl⟩ | rfl := moduleLinkSilence_next h
    · exact .declare
    · exact .stays
  | statusArrival bits word =>
    obtain ⟨-, hdue, -, rfl⟩ | rfl := statusArrival_next h
    · rw [State.takeStatus_link]; exact .status word hdue
    · exact .stays
  | runCompletion =>
    obtain ⟨r, v, -, -, -, ⟨-, -, rfl⟩ | ⟨-, rfl⟩ | ⟨-, -, rfl⟩⟩ | ⟨-, rfl⟩ := runCompletion_next h
    · exact .trip
    · exact .stays
    · exact .stays
    · exact .stays
  | scanCompletion check quench => exact linkMove_of_scanCompletion h
  | mergeCompletion => exact linkMove_of_mergeCompletion h
  | endOfPowerOnWait high =>
    obtain ⟨-, -, rfl⟩ | rfl := endOfPowerOnWait_next h
    · obtain ⟨-, e⟩ | ⟨-, -, e⟩ | ⟨-, -, e⟩ := endWait_cases s high <;> rw [e] <;> exact .stays
    · exact .stays
  | resetLineRelease => obtain ⟨-, -, -, ⟨-, rfl⟩ | ⟨-, rfl⟩⟩ | rfl := resetLineRelease_next h <;> exact .stays
  | resetNReturnsHigh => obtain ⟨-, -, -, -, -, rfl⟩ | rfl := resetNReturnsHigh_next h <;> exact .stays
  | viewCopyCompletion => obtain ⟨w, -, rfl⟩ | rfl := viewCopyCompletion_next h <;> simpa using .stays
  | backoffExpiry => obtain ⟨-, -, rfl⟩ | rfl := backoffExpiry_next h <;> exact .stays
  | clearCheckPass => obtain ⟨-, -, -, rfl⟩ | rfl := clearCheckPass_next h <;> exact .stays
  | lineBusy => obtain ⟨-, rfl⟩ | rfl := lineBusy_next h <;> exact .stays
  | lineIdle => obtain ⟨-, rfl⟩ | rfl := lineIdle_next h <;> exact .stays
  | collision => obtain ⟨-, -, rfl⟩ | rfl := collision_next h <;> exact .stays
  | transmissionCompletion =>
    obtain ⟨f, -, -, -, rfl⟩ | rfl := transmissionCompletion_next h <;> exact .stays
  | startDelimiter n => obtain ⟨-, -, ⟨-, rfl⟩ | ⟨-, rfl⟩⟩ | rfl := startDelimiter_next h <;> exact .stays
  | lengthByteCheck len => obtain ⟨i, -, -, rfl⟩ | rfl := lengthByteCheck_next h <;> exact .stays
  | frameReceptionCompletion body crc =>
    obtain ⟨v, i, -, -, -, rfl⟩ | rfl := frameReceptionCompletion_next h <;> simpa using .stays

/-- An expiry raises the counter to 64 exactly where it declares silence (R153). -/
theorem ModuleLink.SilenceSound.expire (h : l.SilenceSound) (p : Play) (v : Phases Code) :
    (l.expire p v).SilenceSound := by
  obtain ⟨hle, hlost, -⟩ := h
  have hnext := l.silenceNext_eq
  have hdeclares : l.declares = (l.unanswered && decide (64 ≤ l.silence + 1) && !l.lost) := rfl
  refine ⟨?_, ?_, nofun⟩
  · change l.silenceNext ≤ 64
    split at hnext <;> omega
  · change (l.lost || l.declares) = true ↔ l.silenceNext = 64
    rw [hdeclares, hnext]
    cases hl : l.lost with
    | true =>
      have h64 := hlost.mp hl
      simp [h64]
    | false =>
      have h64 : l.silence ≠ 64 := fun e => nomatch hl.symm.trans (hlost.mpr e)
      cases hu : l.unanswered with
      | true =>
        simp only [Bool.true_and, Bool.false_or, Bool.not_false, Bool.and_true, decide_eq_true_eq, if_true]
        omega
      | false => simpa using h64

theorem LinkMove.silenceSound (hm : LinkMove l m) (h : l.SilenceSound) : m.SilenceSound := by
  cases hm with
  | stays | start | stop | snapshot | trip => exact ⟨h.le, h.lost, h.due⟩
  | reset => exact ⟨Nat.zero_le _, by decide, nofun⟩
  | expire p v => exact h.expire p v
  | declare => exact ⟨Nat.le_refl _, by simp [ModuleLink.declareLost, Config.silenceLimit], fun _ => rfl⟩
  | status word hdue =>
    exact ⟨Nat.zero_le _, by simp [ModuleLink.takeStatus], fun hd => nomatch hdue.symm.trans hd⟩

/-! ## Both orders of the declaration -/

/-- Settles O56: the link's declaration is the same in both orders, and once it stands it is not made again. -/
theorem moduleSilence : Obligations.ModuleSilence := by
  refine ⟨?_, fun s h => ?_, fun s t hs h => ?_⟩
  · intro s hl ha hs hw hans hsil hlost t
    have hd : s.link.declares = true := ModuleLink.declares_iff.mpr ⟨hw, hans, hsil, hlost⟩
    have htd : t.link.declares = false := ModuleLink.declares_of_lost rfl
    refine ⟨moduleLinkSilence_of_declares hl (Acquisition.atExpiry_iff.mpr ⟨ha, hs⟩) hd,
      moduleLinkSilence_of_not (.inr htd), fun bits word => statusArrival_of_ignored ?_,
      fun codes => ⟨_, sampleTimerExpiry_eq (s := t) ha hs codes, ?_⟩,
      fun codes => ⟨_, sampleTimerExpiry_eq ha hs codes, ?_⟩⟩
    · simp [ModuleLink.takes, t]
    · rw [State.expire_eq t codes htd]
      exact ⟨ModuleLink.silenceNext_of_limit rfl, rfl, rfl, rfl, rfl, _, rfl, rfl⟩
    · have hflag : (s.link.lost || s.link.declares) = true := by rw [hd, Bool.or_true]
      have hagain := moduleLinkSilence_of_not (.inl (atExpiry_expire s codes))
      obtain ⟨-, -, henable⟩ := modeCode_enableMark s.streamer.play
      rw [State.expire_declared s codes hd] at hagain ⊢
      refine ⟨ModuleLink.silenceNext_of_declares hd, hflag, rfl, rfl, rfl, ⟨_, rfl, ?_⟩, hagain⟩
      exact Bool.eq_false_iff.trans ((not_congr henable).trans not_not)
  · refine moduleLinkSilence_of_not ?_
    simp only [← Bool.not_eq_true, Acquisition.atExpiry_iff, ModuleLink.declares_iff]
    rcases h with h | h | h | h | h | h
    · exact .inl fun hx => h hx.2
    · exact .inl (by simp [h])
    · exact .inr (by simp [h])
    · exact .inr (by simp [h])
    · exact .inr (by omega)
    · exact .inr (by simp [h])
  · exact kept_of_exec (P := SilenceSound) (fun _ _ h => h)
      (fun _ _ _ h hx => silenceSound_iff.mpr ((exec_linkMove hx).silenceSound (silenceSound_iff.mp h))) hs h

end Sys2Proof.Machine
end

section
/-! The arrows of the station state and what moves the trim; power-on, loss of supply and the ways out of
OFF. -/

namespace Sys2Proof.Machine

open Sys2Proof

variable {s t : State}

/-! ## The arrows of chapter 10 -/

/-- What a command can do to the station state and to the synchronizer, command by command. -/
inductive StationMove (s t : State) : Instr → Prop where
  | stays {c : Instr} : t.station.state = s.station.state → t.sync = s.sync → StationMove s t c
  /-- The part takes its power-on values, with no trim (R160). -/
  | supply {c : Instr} : c = .powerOn ∨ c = .lossOfSupplyGood → t.station.state = .off →
      StationMove s t c
  /-- The assertion keeps the trim and the trim frequency (R32, R161). -/
  | assertion : t.station.state = .off → t.sync = s.sync.restart → StationMove s t .resetLineAssertion
  /-- The power-on wait or the low spell of the reset line has ended (R162). -/
  | leavesOff {c : Instr} : (∃ high, c = .endOfPowerOnWait high) ∨ c = .resetLineRelease
        ∨ c = .resetNReturnsHigh →
      s.station.state = .off → t.station.state = .setup → t.sync = s.sync → StationMove s t c
  /-- A good image: the synchronizer starts (R33, R165). -/
  | listen (image : Vector Byte 32) : s.station.state = .setup → t.station.state = .listen →
      StationMove s t (.setupReadCompletion image)
  | badImage (image : Vector Byte 32) : s.station.state = .setup → t.station.state = .fault →
      t.sync = s.sync → StationMove s t (.setupReadCompletion image)
  /-- The evaluation of a run, with its trim formed under the frequency in use (R23, R168 to R170). -/
  | run : s.station.state.live = true →
      t.station.state = s.station.state
          ∨ (s.station.state = .listen ∧ t.station.state = .active)
          ∨ (s.station.state = .active ∧ t.station.state = .hold)
          ∨ (s.station.state = .hold ∧ t.station.state = .active) →
      t.sync.trimFreq = s.sync.trimFreq → StationMove s t .runCompletion
  /-- An own-id frame with a lower or equal serial (R106, R172). -/
  | conflict (i : RxId) : s.peers.work = .merge i → t.station.state = .fault → t.sync = s.sync →
      StationMove s t .mergeCompletion

theorem stationMove_of_endOfPowerOnWait {high : Bool} (h : exec (.endOfPowerOnWait high) s = .next t) :
    StationMove s t (.endOfPowerOnWait high) := by
  obtain ⟨-, hoff, rfl⟩ | rfl := endOfPowerOnWait_next h
  · obtain ⟨-, e⟩ | ⟨-, -, e⟩ | ⟨-, -, e⟩ := endWait_cases s high <;> rw [e]
    · exact .stays rfl rfl
    · exact .leavesOff (.inl ⟨high, rfl⟩) hoff rfl rfl
    · exact .stays rfl rfl
  · exact .stays rfl rfl

theorem stationMove_of_resetLineRelease (h : exec .resetLineRelease s = .next t) :
    StationMove s t .resetLineRelease := by
  obtain ⟨-, -, hoff, ⟨-, rfl⟩ | ⟨-, rfl⟩⟩ | rfl := resetLineRelease_next h
  · exact .stays rfl rfl
  · exact .leavesOff (.inr (.inl rfl)) hoff rfl rfl
  · exact .stays rfl rfl

theorem stationMove_of_setupReadCompletion {image : Vector Byte 32}
    (h : exec (.setupReadCompletion image) s = .next t) : StationMove s t (.setupReadCompletion image) := by
  obtain ⟨hs, v, -, rfl⟩ | ⟨hs, -, rfl⟩ | rfl := setupReadCompletion_next h
  · exact .listen image hs rfl
  · exact .badImage image hs rfl rfl
  · exact .stays rfl rfl

theorem stationMove_of_scanCompletion {check : Code} {quench : Bool}
    (h : exec (.scanCompletion check quench) s = .next t) : StationMove s t (.scanCompletion check quench) := by
  obtain ⟨sc, v, -, -, -, rfl⟩ | rfl := scanCompletion_next h
  · obtain ⟨-, e⟩ | ⟨-, e⟩ | ⟨-, -, e⟩ := afterScan_cases (s.recordScan sc check) v sc.index quench <;>
      rw [e] <;> exact .stays rfl rfl
  · exact .stays rfl rfl

theorem stationMove_of_runCompletion (h : exec .runCompletion s = .next t) :
    StationMove s t .runCompletion := by
  obtain ⟨r, v, -, -, -, ⟨hl, -, rfl⟩ | ⟨-, rfl⟩ | ⟨-, -, rfl⟩⟩ | ⟨-, rfl⟩ := runCompletion_next h
  · obtain ⟨lock, c, e⟩ := s.completeRun_station v r
    refine .run hl ?_ (Synchronizer.update_trimFreq ..)
    rw [e]
    obtain ⟨-, ⟨hstays, -⟩ | ⟨hmoves, -⟩⟩ := s.station.evaluate_cases v lock c
    · exact .inl hstays
    · exact .inr hmoves
  · exact .stays rfl rfl
  · exact .stays rfl rfl
  · exact .stays rfl rfl

theorem stationMove_of_mergeCompletion (h : exec .mergeCompletion s = .next t) :
    StationMove s t .mergeCompletion := by
  obtain ⟨i, v, f, hw, -, -, rfl⟩ | rfl := mergeCompletion_next h
  · obtain ⟨-, e, -, he⟩ | ⟨-, -, he⟩ | ⟨-, -, he⟩ | ⟨-, -, he⟩ := finishMerge_cases s v i f <;> rw [he]
    · exact .stays (by simp [State.mergeEntry]) (by simp [State.mergeEntry])
    · exact .stays (by simp) (by simp)
    · exact .conflict i hw rfl rfl
    · exact .stays (by simp) (by simp)
  · exact .stays rfl rfl

theorem exec_stationMove {c : Instr} (h : exec c s = .next t) : StationMove s t c := by
  cases c with
  | powerOn => rw [powerOn_next h]; exact .supply (.inl rfl) rfl
  | lossOfSupplyGood => rw [lossOfSupplyGood_next h]; exact .supply (.inr rfl) rfl
  | resetLineAssertion =>
    obtain ⟨-, rfl⟩ | rfl := resetLineAssertion_next h
    · exact .assertion rfl rfl
    · exact .stays rfl rfl
  | endOfPowerOnWait high => exact stationMove_of_endOfPowerOnWait h
  | resetLineRelease => exact stationMove_of_resetLineRelease h
  | resetNReturnsHigh =>
    obtain ⟨-, -, -, -, hoff, rfl⟩ | rfl := resetNReturnsHigh_next h
    · exact .leavesOff (.inr (.inr rfl)) hoff rfl rfl
    · exact .stays rfl rfl
  | setupReadCompletion image => exact stationMove_of_setupReadCompletion h
  | scanCompletion check quench => exact stationMove_of_scanCompletion h
  | runCompletion => exact stationMove_of_runCompletion h
  | mergeCompletion => exact stationMove_of_mergeCompletion h
  | sampleTimerExpiry codes =>
    obtain ⟨-, -, rfl⟩ | ⟨-, rfl⟩ := sampleTimerExpiry_next h <;> exact .stays (by simp) (by simp)
  | moduleLinkSilence => obtain ⟨-, -, -, -, rfl⟩ | rfl := moduleLinkSilence_next h <;> exact .stays rfl rfl
  | statusArrival bits word =>
    obtain ⟨-, -, -, rfl⟩ | rfl := statusArrival_next h <;> exact .stays (by simp) (by simp)
  | viewCopyCompletion =>
    obtain ⟨w, -, rfl⟩ | rfl := viewCopyCompletion_next h <;> exact .stays (by simp) (by simp)
  | backoffExpiry => obtain ⟨-, -, rfl⟩ | rfl := backoffExpiry_next h <;> exact .stays rfl rfl
  | clearCheckPass => obtain ⟨-, -, -, rfl⟩ | rfl := clearCheckPass_next h <;> exact .stays rfl rfl
  | lineBusy => obtain ⟨-, rfl⟩ | rfl := lineBusy_next h <;> exact .stays rfl rfl
  | lineIdle => obtain ⟨-, rfl⟩ | rfl := lineIdle_next h <;> exact .stays rfl rfl
  | collision => obtain ⟨-, -, rfl⟩ | rfl := collision_next h <;> exact .stays rfl rfl
  | transmissionCompletion =>
    obtain ⟨f, -, -, -, rfl⟩ | rfl := transmissionCompletion_next h <;> exact .stays rfl rfl
  | startDelimiter n =>
    obtain ⟨-, -, ⟨-, rfl⟩ | ⟨-, rfl⟩⟩ | rfl := startDelimiter_next h <;> exact .stays rfl rfl
  | lengthByteCheck len => obtain ⟨i, -, -, rfl⟩ | rfl := lengthByteCheck_next h <;> exact .stays rfl rfl
  | frameReceptionCompletion body crc =>
    obtain ⟨v, i, -, -, -, rfl⟩ | rfl := frameReceptionCompletion_next h <;>
      exact .stays (by simp) (by simp)

/-- The peer table merges in LISTEN, ACTIVE and HOLD only (R95, R172). -/
theorem ReceiveSound.live_of_merge (h : ReceiveSound s) {i : RxId} (hw : s.peers.work = .merge i) :
    s.station.state.live = true := by
  obtain ⟨-, -, -, -, -, -, -, -, hdead⟩ := h
  by_contra hl
  have hidle := (hdead (by simpa using hl)).1
  cases hw.symm.trans hidle

/-- Settles O4, along the moves a command can make; a merge in hand shows that the station was in LISTEN,
ACTIVE or HOLD. -/
theorem stateGraph : Obligations.StateGraph := by
  intro c s t hrx h
  have kept (e : t.sync = s.sync) : t.sync.trim = s.sync.trim ∧ t.sync.trimFreq = s.sync.trimFreq :=
    ⟨congrArg _ e, congrArg _ e⟩
  cases exec_stationMove h with
  | stays hs e => exact ⟨.inl hs, .inl (kept e)⟩
  | supply hc hs => exact ⟨.inr (.inl ⟨hs, hc.imp_right .inl⟩), .inr (hc.imp_right .inl)⟩
  | assertion hs e => exact ⟨.inr (.inl ⟨hs, .inr (.inr rfl)⟩), .inl (by rw [e]; exact ⟨rfl, rfl⟩)⟩
  | leavesOff hc hs ht e => exact ⟨.inr (.inr (.inl ⟨hs, ht, hc⟩)), .inl (kept e)⟩
  | listen image hs ht =>
    exact ⟨.inr (.inr (.inr (.inl ⟨hs, .inl ht, image, rfl⟩))), .inr (.inr (.inr (.inl ⟨hs, ht⟩)))⟩
  | badImage image hs ht e =>
    exact ⟨.inr (.inr (.inr (.inl ⟨hs, .inr ht, image, rfl⟩))), .inl (kept e)⟩
  | run hl hs hfreq =>
    refine ⟨?_, .inr (.inr (.inr (.inr ⟨rfl, hl, hfreq⟩)))⟩
    exact hs.imp_right fun hmoves => .inr (.inr (.inr (.inl ⟨rfl, hmoves⟩)))
  | conflict i hw ht e =>
    exact ⟨.inr (.inr (.inr (.inr (.inr ⟨rfl, hrx.live_of_merge hw, ht⟩)))), .inl (kept e)⟩

/-! ## Supply -/

/-- The three resets agree in the reset values of every block (R160, R161). -/
theorem resets_resetValues {c : Instr} (h : Resets s c t) : ResetValues t := by
  have hbank : ∀ i, (SampleStore.reset.get i).state = .free ∧ (SampleStore.reset.get i).fill = 0 :=
    fun i => by cases i <;> exact ⟨rfl, rfl⟩
  cases h <;>
    exact ⟨⟨rfl, rfl, rfl, rfl, rfl, rfl, rfl, rfl⟩, ⟨rfl, rfl, rfl, rfl, rfl, rfl, rfl, rfl⟩, hbank,
      ⟨rfl, rfl, rfl, rfl⟩, rfl, rfl, rfl, rfl, rfl,
      ⟨rfl, rfl, rfl, rfl, rfl, rfl, rfl, rfl, rfl, rfl, rfl, rfl⟩, rfl, rfl,
      ⟨rfl, rfl, rfl, rfl, rfl, rfl, rfl⟩, rfl, rfl, rfl⟩

/-- An assertion without supply is no event of the part (log entry 3). -/
theorem resetLineAssertion_of_noSupply (h : s.pins.supplyGood = false) :
    exec .resetLineAssertion s = .next s := by
  simp [exec, execResetLineAssertion, h]

theorem resetLineRelease_of_noSupply (h : s.pins.supplyGood = false) :
    exec .resetLineRelease s = .next s := by
  simp [exec, execResetLineRelease, h]

/-- Settles O5: what the reset values leave open at a power-on and at a loss of supply is read off the
state after reset, and a power-on keeps of the state before only the queue. -/
theorem powerOnAndLossOfSupply : Obligations.PowerOnAndLossOfSupply := by
  refine ⟨fun s => ?_, rfl, fun s => ?_⟩
  · exact ⟨_, rfl, resets_resetValues .powerOn, rfl, rfl, rfl, rfl, rfl, rfl, rfl⟩
  · obtain ⟨⟨hoff, -⟩, ⟨hrunning, hscan, -⟩, -, -, hengine, -, -, -, hpeers,
      ⟨hcontention, hslot, -, -, -, hrx, -⟩, -, hstreamer, ⟨hlink, -⟩, -, hselect, -⟩ :=
      resets_resetValues (s := s) .loss
    have hnoSupply : s.losePower.pins.supplyGood = false := rfl
    exact ⟨s.losePower, rfl, hoff, rfl, hnoSupply, hselect, hrunning, hscan, congrArg _ hengine,
      congrArg _ hpeers, hcontention, hslot, hrx, congrArg _ hstreamer, hlink,
      resetLineAssertion_of_noSupply hnoSupply, resetLineRelease_of_noSupply hnoSupply, rfl⟩

/-! ## The ways out of OFF -/

/-- The end of the power-on wait where the wait runs (R162). -/
theorem endOfPowerOnWait_of_waiting (hoff : s.station.state = .off) (hw : s.station.waiting = true)
    (high : Bool) : exec (.endOfPowerOnWait high) s = .next (s.endWait high) := by
  simp [exec, execEndOfPowerOnWait, hoff, hw]

/-- The rise of the line after an assertion (R162). -/
theorem resetLineRelease_of_asserted (hoff : s.station.state = .off) (hp : s.pins.supplyGood = true)
    (ha : s.pins.resetAsserted = true) : exec .resetLineRelease s = .next s.releaseReset := by
  simp [exec, execResetLineRelease, hoff, hp, ha]

/-- Settles O6: one equation for each event, by the pins and the wait that it finds. -/
theorem offIsLeftForSetup : Obligations.OffIsLeftForSetup := by
  intro s hoff request
  refine ⟨fun hw ha => ?_, fun hw ha high => ?_, fun hp ha => ?_, fun hp ha hn hw => ?_⟩
  · rw [endOfPowerOnWait_of_waiting hoff hw, endOfPowerOnWait_of_waiting hoff hw]
    constructor <;> simp [State.endWait, State.enterSetup, ha, request, setupRequest]
  · rw [endOfPowerOnWait_of_waiting hoff hw]
    simp [State.endWait, ha]
  · rw [resetLineRelease_of_asserted hoff hp ha]
    constructor <;> intro hw <;> simp [State.releaseReset, State.enterSetup, hw, request, setupRequest]
  · simp [exec, execResetNReturnsHigh, State.enterSetup, hp, ha, hn, hw, hoff, request, setupRequest]

end Sys2Proof.Machine
end

section
/-! The setup image: its four checks and its clamped fields. -/

namespace Sys2Proof.Machine

open Sys2Proof

/-! ## One field -/

/-- A range without negative numbers is held as a natural number without loss (R164). -/
theorem coe_toNat_clamp {lo : Int} (hi x : Int) (h : 0 ≤ lo) :
    ((clamp lo hi x).toNat : Int) = max lo (min hi x) := by
  unfold clamp
  omega

/-- A field is left as it is exactly where it lies in its range (R164). -/
theorem inRange_iff {lo hi x : Int} (h : lo ≤ hi) :
    inRange lo hi x = true ↔ max lo (min hi x) = x := by
  simp only [inRange, Bool.and_eq_true, decide_eq_true_eq]
  omega

theorem inRange_zero_iff {hi : Int} (n : Nat) (h : 0 ≤ hi) :
    inRange 0 hi n = true ↔ min hi (n : Int) = n := by
  rw [inRange_iff h]
  omega

/-- A register that counts to `hi` holds a field clamped to `hi` without loss (R164). -/
theorem toNat_clamp_mod (hi n : Nat) :
    (((clamp 0 hi n).toNat % (hi + 1) : Nat) : Int) = min (hi : Int) n := by
  unfold clamp
  rw [Nat.mod_eq_of_lt] <;> omega

/-! ## The image -/

theorem imageFreq_isSome (m : Vector Byte 32) :
    (imageFreq m).isSome = true ↔ m[3] = 50#8 ∨ m[3] = 60#8 := by
  unfold imageFreq
  by_cases h50 : m[3] = 50#8
  · simp [h50]
  · by_cases h60 : m[3] = 60#8 <;> simp [h50, h60]

theorem imageFreq_hz50 {m : Vector Byte 32} {f : Freq} (h : imageFreq m = some f) :
    f = .hz50 ↔ m[3] = 50#8 := by
  unfold imageFreq at h
  split at h
  · simp_all
  · split at h
    · simp_all [← Option.some.inj h]
    · cases h

/-- The four checks of R163. -/
theorem imagePasses_iff (m : Vector Byte 32) :
    imagePasses m = true ↔
      crc16 (m.toList.take 30) = m[30] ++ m[31] ∧ m[0] = 0x51#8 ∧ imageSerial m ≠ 0#32
        ∧ imageSerial m ≠ 4294967295#32 ∧ (m[3] = 50#8 ∨ m[3] = 60#8) := by
  simp only [imagePasses, Bool.and_eq_true, decide_eq_true_eq, imageFreq_isSome, and_assoc]
  rfl

/-- An image is read exactly where it passes: its frequency code is then one of the two. -/
theorem readImage_isSome (m : Vector Byte 32) :
    (readImage m).isSome = true ↔ imagePasses m = true := by
  unfold readImage
  split
  · rename_i h
    obtain ⟨-, -, -, -, hcode⟩ := (imagePasses_iff m).mp h
    simpa [h] using (imageFreq_isSome m).mpr hcode
  · simp_all

theorem readImage_eq_some {m : Vector Byte 32} {v : Setup} (h : readImage m = some v) :
    ∃ f, imageFreq m = some f ∧ v = imageSetup m f := by
  unfold readImage at h
  split at h
  · obtain ⟨f, hf, rfl⟩ := Option.map_eq_some_iff.mp h
    exact ⟨f, hf, rfl⟩
  · cases h

/-- The fields in use after a read (R164, R182). -/
theorem imageSetup_fields (m : Vector Byte 32) (f : Freq) :
    ((imageSetup m f).group.toNat : Int) = min (15 : Int) m[1].toNat
      ∧ ((imageSetup m f).id.val : Int) = min (7 : Int) m[2].toNat
      ∧ ((imageSetup m f).imax : Int) = max 32768 (min 4194304 (imageImax m))
      ∧ ((imageSetup m f).vmin : Int) = max 419430 (min 7549747 (imageVmin m))
      ∧ ((imageSetup m f).cmax : Int) = max 0 (min 2097152 (imageCmax m))
      ∧ ((imageSetup m f).tx : Int) = max 83886 (min 4194304 (imageTx m))
      ∧ ((imageSetup m f).aging : Int) = max 1 (min (8 : Int) m[24].toNat)
      ∧ ((imageSetup m f).gain : Int) = min (3 : Int) m[25].toNat
      ∧ ((imageSetup m f).listenPeriod : Int) = max 8 (min 255 (imageListen m : Int))
      ∧ ((imageSetup m f).reentryPeriod : Int) = max 4 (min 255 (imageReentry m : Int)) := by
  refine ⟨?_, ?_, coe_toNat_clamp _ _ (by decide), coe_toNat_clamp _ _ (by decide),
    coe_toNat_clamp _ _ (by decide), coe_toNat_clamp _ _ (by decide), coe_toNat_clamp _ _ (by decide), ?_,
    coe_toNat_clamp _ _ (by decide), coe_toNat_clamp _ _ (by decide)⟩
  · exact toNat_clamp_mod 15 _
  · exact toNat_clamp_mod 7 _
  · exact (coe_toNat_clamp _ _ (by decide)).trans (by omega)

/-- The setup-adjusted flag is clear exactly where every field in use is that of the image (R164). -/
theorem imageSetup_adjusted (m : Vector Byte 32) (f : Freq) :
    (imageSetup m f).adjusted = false ↔
      ((imageSetup m f).group.toNat : Int) = m[1].toNat ∧ ((imageSetup m f).id.val : Int) = m[2].toNat
        ∧ ((imageSetup m f).imax : Int) = imageImax m ∧ ((imageSetup m f).vmin : Int) = imageVmin m
        ∧ ((imageSetup m f).cmax : Int) = imageCmax m ∧ ((imageSetup m f).tx : Int) = imageTx m
        ∧ ((imageSetup m f).aging : Int) = m[24].toNat ∧ ((imageSetup m f).gain : Int) = m[25].toNat
        ∧ ((imageSetup m f).listenPeriod : Int) = imageListen m
        ∧ ((imageSetup m f).reentryPeriod : Int) = imageReentry m := by
  obtain ⟨hgroup, hid, himax, hvmin, hcmax, htx, haging, hgain, hlisten, hreentry⟩ := imageSetup_fields m f
  have hflag : (imageSetup m f).adjusted = false ↔ imageInRange m = true := by simp [imageSetup]
  rw [hflag, hgroup, hid, himax, hvmin, hcmax, htx, haging, hgain, hlisten, hreentry]
  simp only [imageInRange, Bool.and_eq_true, and_assoc]
  exact and_congr (inRange_zero_iff _ (by decide)) <| and_congr (inRange_zero_iff _ (by decide)) <|
    and_congr (inRange_iff (by decide)) <| and_congr (inRange_iff (by decide)) <|
    and_congr (inRange_iff (by decide)) <| and_congr (inRange_iff (by decide)) <|
    and_congr (inRange_iff (by decide)) <| and_congr (inRange_zero_iff _ (by decide)) <|
    and_congr (inRange_iff (by decide)) (inRange_iff (by decide))

/-- Settles O8: the checks of the image, each field in its range, and the flag field by field. -/
theorem setupImageFields : Obligations.SetupImageFields := by
  intro m i32 serial group id imax vmin cmax tx aging gain nl nr
  refine ⟨(readImage_isSome m).trans (imagePasses_iff m), fun v hv => ?_⟩
  obtain ⟨f, hf, rfl⟩ := readImage_eq_some hv
  obtain ⟨hgroup, hid, himax, hvmin, hcmax, htx, haging, hgain, hlisten, hreentry⟩ := imageSetup_fields m f
  exact ⟨rfl, imageFreq_hz50 hf, hgroup, hid, himax, hvmin, hcmax, htx, haging, hgain, hlisten, hreentry,
    imageSetup_adjusted m f⟩

end Sys2Proof.Machine
end

section
/-! The command a step runs, and the commands that find their block not waiting for them. -/

namespace Sys2Proof.Machine

open Sys2Proof

variable {s : State}

/-- Settles O1: a step looks at the queue alone, and both of its cases are its definition. -/
theorem stepRunsFrontCommand : Obligations.StepRunsFrontCommand :=
  ⟨fun _ _ _ => rfl, fun _ => rfl⟩

/-! ## Commands that pass (log entry 3)

Each lemma denies a condition under which the inversion lemma of its command lets it act; the three commands
that can stop the model are read off their definitions. -/

/-- A command that cannot stop the model, and answers no state but the one it found, passes. -/
theorem exec_eq_self {c : Instr} (hc : canStop c = false) (keeps : ∀ t, exec c s = .next t → t = s) :
    exec c s = .next s := by
  obtain ⟨t, ht⟩ := exec_next_of_not_canStop hc s
  rwa [keeps t ht] at ht

theorem endOfPowerOnWait_of_not_waiting (h : s.station.waiting = false) (high : Bool) :
    exec (.endOfPowerOnWait high) s = .next s :=
  exec_eq_self rfl fun _ ht =>
    (endOfPowerOnWait_next ht).resolve_left fun ⟨hw, _⟩ => by simp [h] at hw

theorem resetLineRelease_of_not_asserted (h : s.pins.resetAsserted = false) :
    exec .resetLineRelease s = .next s :=
  exec_eq_self rfl fun _ ht =>
    (resetLineRelease_next ht).resolve_left fun ⟨_, ha, _⟩ => by simp [h] at ha

theorem resetNReturnsHigh_of_high (h : s.pins.resetN = true) : exec .resetNReturnsHigh s = .next s :=
  exec_eq_self rfl fun _ ht =>
    (resetNReturnsHigh_next ht).resolve_left fun ⟨_, _, hn, _⟩ => by simp [h] at hn

theorem setupReadCompletion_of_not_setup (h : s.station.state ≠ .setup) (image : Vector Byte 32) :
    exec (.setupReadCompletion image) s = .next s :=
  exec_eq_self rfl fun _ ht => by
    obtain ⟨hs, -⟩ | ⟨hs, -⟩ | rfl := setupReadCompletion_next ht
    · exact absurd hs h
    · exact absurd hs h
    · rfl

theorem sampleTimerExpiry_of_not_running (h : s.acq.running = false) (codes : Channels Code) :
    exec (.sampleTimerExpiry codes) s = .next s := by
  simp [exec, execSampleTimerExpiry, h]

theorem scanCompletion_of_no_scan (h : s.acq.scan = none) (check : Code) (quench : Bool) :
    exec (.scanCompletion check quench) s = .next s := by
  simp [exec, execScanCompletion, h]

theorem runCompletion_of_no_run (h : s.engine.run = none) : exec .runCompletion s = .next s := by
  simp [exec, execRunCompletion, h]

theorem viewCopyCompletion_of_no_copy (h : ∀ w, s.peers.work ≠ .copy w) :
    exec .viewCopyCompletion s = .next s :=
  exec_eq_self rfl fun _ ht =>
    (viewCopyCompletion_next ht).resolve_left fun ⟨w, hw, _⟩ => h w hw

theorem mergeCompletion_of_no_merge (h : ∀ i, s.peers.work ≠ .merge i) :
    exec .mergeCompletion s = .next s :=
  exec_eq_self rfl fun _ ht =>
    (mergeCompletion_next ht).resolve_left fun ⟨i, _, _, hw, _⟩ => h i hw

theorem moduleLinkSilence_of_link_stopped (h : s.link.running = false) :
    exec .moduleLinkSilence s = .next s :=
  exec_eq_self rfl fun _ ht =>
    (moduleLinkSilence_next ht).resolve_left fun ⟨hr, _⟩ => by simp [h] at hr

theorem moduleLinkSilence_of_no_expiry (h : s.acq.running = false ∨ s.acq.scan ≠ none) :
    exec .moduleLinkSilence s = .next s :=
  exec_eq_self rfl fun _ ht =>
    (moduleLinkSilence_next ht).resolve_left fun ⟨_, hr, hs, _⟩ =>
      h.elim (fun hn => by simp [hn] at hr) (fun hn => hn hs)

theorem statusArrival_of_link_stopped (h : s.link.running = false) (bits : Nat) (word : BitVec 24) :
    exec (.statusArrival bits word) s = .next s :=
  statusArrival_of_ignored (by simp [ModuleLink.takes, h])

/-! ### Commands of the line

The line controller runs in LISTEN, ACTIVE and HOLD alone (R113), so that each of its commands passes in the
other states as it does where the line is not waiting for it. -/

theorem backoffExpiry_of_unawaited (h : s.station.state.live = true → s.line.contention ≠ .backoff) :
    exec .backoffExpiry s = .next s :=
  exec_eq_self rfl fun _ ht =>
    (backoffExpiry_next ht).resolve_left fun ⟨hl, hc, _⟩ => h hl hc

theorem clearCheckPass_of_unawaited (h : s.station.state.live = true → s.line.contention ≠ .check) :
    exec .clearCheckPass s = .next s :=
  exec_eq_self rfl fun _ ht =>
    (clearCheckPass_next ht).resolve_left fun ⟨hl, hc, _⟩ => h hl hc

theorem collision_of_unawaited (h : s.station.state.live = true → s.line.contention ≠ .sending) :
    exec .collision s = .next s :=
  exec_eq_self rfl fun _ ht =>
    (collision_next ht).resolve_left fun ⟨hl, hc, _⟩ => h hl hc

theorem transmissionCompletion_of_unawaited
    (h : s.station.state.live = true → s.line.contention ≠ .sending) :
    exec .transmissionCompletion s = .next s :=
  exec_eq_self rfl fun _ ht =>
    (transmissionCompletion_next ht).resolve_left fun ⟨_, hl, hc, _⟩ => h hl hc

theorem lineBusy_of_not_live (h : s.station.state.live ≠ true) : exec .lineBusy s = .next s :=
  exec_eq_self rfl fun _ ht => (lineBusy_next ht).resolve_left fun ⟨hl, _⟩ => h hl

theorem lineIdle_of_not_live (h : s.station.state.live ≠ true) : exec .lineIdle s = .next s :=
  exec_eq_self rfl fun _ ht => (lineIdle_next ht).resolve_left fun ⟨hl, _⟩ => h hl

theorem startDelimiter_of_unawaited (h : s.station.state.live = true → s.line.rx ≠ .hunting) (n : Nat) :
    exec (.startDelimiter n) s = .next s :=
  exec_eq_self rfl fun _ ht =>
    (startDelimiter_next ht).resolve_left fun ⟨hl, hx, _⟩ => h hl hx

theorem lengthByteCheck_of_unawaited (h : s.station.state.live = true → ∀ i, s.line.rx ≠ .length i)
    (len : Byte) : exec (.lengthByteCheck len) s = .next s :=
  exec_eq_self rfl fun _ ht =>
    (lengthByteCheck_next ht).resolve_left fun ⟨i, hl, hx, _⟩ => h hl i hx

theorem frameReceptionCompletion_of_unawaited
    (h : s.station.state.live = true → ∀ i, s.line.rx ≠ .body i) (body : Vector Byte 33)
    (crc : BitVec 16) : exec (.frameReceptionCompletion body crc) s = .next s :=
  exec_eq_self rfl fun _ ht =>
    (frameReceptionCompletion_next ht).resolve_left fun ⟨_, i, _, hx, hl, _⟩ => h hl i hx

/-- Settles O3: one lemma per command, and for the line's commands one lemma for both of its clauses. -/
theorem unawaitedEventsChangeNothing : Obligations.UnawaitedEventsChangeNothing := by
  intro s
  refine ⟨fun high h => endOfPowerOnWait_of_not_waiting h high, resetLineRelease_of_not_asserted,
    resetNReturnsHigh_of_high, fun image h => setupReadCompletion_of_not_setup h image,
    fun codes h => sampleTimerExpiry_of_not_running h codes,
    fun check quench h => scanCompletion_of_no_scan h check quench, viewCopyCompletion_of_no_copy,
    runCompletion_of_no_run, mergeCompletion_of_no_merge,
    fun h => ⟨moduleLinkSilence_of_link_stopped h, statusArrival_of_link_stopped h⟩,
    moduleLinkSilence_of_no_expiry, fun h => backoffExpiry_of_unawaited fun _ => h,
    fun h => clearCheckPass_of_unawaited fun _ => h,
    fun h => ⟨collision_of_unawaited fun _ => h, transmissionCompletion_of_unawaited fun _ => h⟩,
    fun h => startDelimiter_of_unawaited fun _ => h, fun h => lengthByteCheck_of_unawaited fun _ => h,
    fun h => frameReceptionCompletion_of_unawaited fun _ => h, fun h => ?_⟩
  have hdead : s.station.state.live ≠ true := Bool.eq_false_iff.mp h
  exact ⟨backoffExpiry_of_unawaited (absurd · hdead), clearCheckPass_of_unawaited (absurd · hdead),
    lineBusy_of_not_live hdead, lineIdle_of_not_live hdead, collision_of_unawaited (absurd · hdead),
    transmissionCompletion_of_unawaited (absurd · hdead), startDelimiter_of_unawaited (absurd · hdead),
    lengthByteCheck_of_unawaited (absurd · hdead), frameReceptionCompletion_of_unawaited (absurd · hdead)⟩

end Sys2Proof.Machine
end
